-- ==== Sys2Proof/Word.lean ====
section
/-! DEFINITION. The two widths of the core: bytes and words (`00_scope.md` R10). -/

namespace Sys2Proof

/-- A byte: 8 bits (R10). All arithmetic on it is modulo 256. -/
abbrev Byte := BitVec 8

/-- A word: 16 bits (R10). All arithmetic on it is modulo 65536; addresses are words (R61). -/
abbrev Word := BitVec 16

end Sys2Proof
end

