-- ==== Sys2Proof/Machine/Bytes.lean ====
section
/-! DEFINITION. Bit fields, byte order and sign extension (`00_scope.md` R11). -/

namespace Sys2Proof.Machine

/-- `w[15:8]`. -/
def hiByte (w : Word) : Byte := w.extractLsb' 8 8

/-- `w[7:0]`. -/
def loByte (w : Word) : Byte := w.extractLsb' 0 8

/-- `h ++ l`: the word with high byte `h` and low byte `l`. -/
def joinBytes (h l : Byte) : Word := h ++ l

/-- `sext_16(b)`: the byte read as a signed number. -/
def sext16 (b : Byte) : Word := b.signExtend 16

end Sys2Proof.Machine
end

