-- ==== Sys2Proof/Syntax.lean ====
section
/-! DEFINITION. The instructions: one constructor per row of spec/opcode_table.json.

The 21 constructors `pfx…` with a final byte stand for the words of one prefix pattern
(`30_encoding.md` R84) whose selector the machine's table does not map: they run the default
no-operation (R89). A word whose selector the table maps decodes to the table's own instruction
(log entries 11 and 12). The 64 constructors `pfxFatal…` stand for the three-prefix sequences
(R134). Operands: `nn` a 16-bit immediate or address, `n` an 8-bit immediate, `d` a signed
displacement byte (R87, R201). -/

namespace Sys2Proof

/-- The four prefix bytes (`40_decoder.md` R101). -/
inductive Prefix where
  | dd | fd | ed | cb
deriving DecidableEq, Repr

/-- The prefix bytes before the final byte (`00_scope.md` R15, `30_encoding.md` R84). -/
inductive Pattern where
  | bare
  | one (p : Prefix)
  | two (p q : Prefix)
deriving DecidableEq, Repr

/-- An instruction of the machine: one constructor per row of the opcode table. -/
inductive Instr where
  /-- pattern none, selector unmapped (R113) -/
  | pfxNone (o : Byte)
  /-- pattern DD, selector unmapped (R114) -/
  | pfxDd (o : Byte)
  /-- pattern FD, selector unmapped (R115) -/
  | pfxFd (o : Byte)
  /-- pattern ED, selector unmapped (R116) -/
  | pfxEd (o : Byte)
  /-- pattern CB, selector unmapped (R117) -/
  | pfxCb (o : Byte)
  /-- pattern DD DD, selector unmapped (R118) -/
  | pfxDdDd (o : Byte)
  /-- pattern DD FD, selector unmapped (R119) -/
  | pfxDdFd (o : Byte)
  /-- pattern DD CB, selector unmapped (R120) -/
  | pfxDdCb (o : Byte)
  /-- pattern FD DD, selector unmapped (R121) -/
  | pfxFdDd (o : Byte)
  /-- pattern FD FD, selector unmapped (R122) -/
  | pfxFdFd (o : Byte)
  /-- pattern FD CB, selector unmapped (R123) -/
  | pfxFdCb (o : Byte)
  /-- pattern ED DD, selector unmapped (R124) -/
  | pfxEdDd (o : Byte)
  /-- pattern ED FD, selector unmapped (R125) -/
  | pfxEdFd (o : Byte)
  /-- pattern ED CB, selector unmapped (R126) -/
  | pfxEdCb (o : Byte)
  /-- pattern CB DD, selector unmapped (R127) -/
  | pfxCbDd (o : Byte)
  /-- pattern CB FD, selector unmapped (R128) -/
  | pfxCbFd (o : Byte)
  /-- pattern CB CB, selector unmapped (R129) -/
  | pfxCbCb (o : Byte)
  /-- pattern DD ED, selector unmapped (R130) -/
  | pfxDdEd (o : Byte)
  /-- pattern FD ED, selector unmapped (R131) -/
  | pfxFdEd (o : Byte)
  /-- pattern ED ED, selector unmapped (R132) -/
  | pfxEdEd (o : Byte)
  /-- pattern CB ED, selector unmapped (R133) -/
  | pfxCbEd (o : Byte)
  /-- three prefix bytes DD DD DD (R134) -/
  | pfxFatalDdDdDd
  /-- three prefix bytes DD DD FD (R134) -/
  | pfxFatalDdDdFd
  /-- three prefix bytes DD DD ED (R134) -/
  | pfxFatalDdDdEd
  /-- three prefix bytes DD DD CB (R134) -/
  | pfxFatalDdDdCb
  /-- three prefix bytes DD FD DD (R134) -/
  | pfxFatalDdFdDd
  /-- three prefix bytes DD FD FD (R134) -/
  | pfxFatalDdFdFd
  /-- three prefix bytes DD FD ED (R134) -/
  | pfxFatalDdFdEd
  /-- three prefix bytes DD FD CB (R134) -/
  | pfxFatalDdFdCb
  /-- three prefix bytes DD ED DD (R134) -/
  | pfxFatalDdEdDd
  /-- three prefix bytes DD ED FD (R134) -/
  | pfxFatalDdEdFd
  /-- three prefix bytes DD ED ED (R134) -/
  | pfxFatalDdEdEd
  /-- three prefix bytes DD ED CB (R134) -/
  | pfxFatalDdEdCb
  /-- three prefix bytes DD CB DD (R134) -/
  | pfxFatalDdCbDd
  /-- three prefix bytes DD CB FD (R134) -/
  | pfxFatalDdCbFd
  /-- three prefix bytes DD CB ED (R134) -/
  | pfxFatalDdCbEd
  /-- three prefix bytes DD CB CB (R134) -/
  | pfxFatalDdCbCb
  /-- three prefix bytes FD DD DD (R134) -/
  | pfxFatalFdDdDd
  /-- three prefix bytes FD DD FD (R134) -/
  | pfxFatalFdDdFd
  /-- three prefix bytes FD DD ED (R134) -/
  | pfxFatalFdDdEd
  /-- three prefix bytes FD DD CB (R134) -/
  | pfxFatalFdDdCb
  /-- three prefix bytes FD FD DD (R134) -/
  | pfxFatalFdFdDd
  /-- three prefix bytes FD FD FD (R134) -/
  | pfxFatalFdFdFd
  /-- three prefix bytes FD FD ED (R134) -/
  | pfxFatalFdFdEd
  /-- three prefix bytes FD FD CB (R134) -/
  | pfxFatalFdFdCb
  /-- three prefix bytes FD ED DD (R134) -/
  | pfxFatalFdEdDd
  /-- three prefix bytes FD ED FD (R134) -/
  | pfxFatalFdEdFd
  /-- three prefix bytes FD ED ED (R134) -/
  | pfxFatalFdEdEd
  /-- three prefix bytes FD ED CB (R134) -/
  | pfxFatalFdEdCb
  /-- three prefix bytes FD CB DD (R134) -/
  | pfxFatalFdCbDd
  /-- three prefix bytes FD CB FD (R134) -/
  | pfxFatalFdCbFd
  /-- three prefix bytes FD CB ED (R134) -/
  | pfxFatalFdCbEd
  /-- three prefix bytes FD CB CB (R134) -/
  | pfxFatalFdCbCb
  /-- three prefix bytes ED DD DD (R134) -/
  | pfxFatalEdDdDd
  /-- three prefix bytes ED DD FD (R134) -/
  | pfxFatalEdDdFd
  /-- three prefix bytes ED DD ED (R134) -/
  | pfxFatalEdDdEd
  /-- three prefix bytes ED DD CB (R134) -/
  | pfxFatalEdDdCb
  /-- three prefix bytes ED FD DD (R134) -/
  | pfxFatalEdFdDd
  /-- three prefix bytes ED FD FD (R134) -/
  | pfxFatalEdFdFd
  /-- three prefix bytes ED FD ED (R134) -/
  | pfxFatalEdFdEd
  /-- three prefix bytes ED FD CB (R134) -/
  | pfxFatalEdFdCb
  /-- three prefix bytes ED ED DD (R134) -/
  | pfxFatalEdEdDd
  /-- three prefix bytes ED ED FD (R134) -/
  | pfxFatalEdEdFd
  /-- three prefix bytes ED ED ED (R134) -/
  | pfxFatalEdEdEd
  /-- three prefix bytes ED ED CB (R134) -/
  | pfxFatalEdEdCb
  /-- three prefix bytes ED CB DD (R134) -/
  | pfxFatalEdCbDd
  /-- three prefix bytes ED CB FD (R134) -/
  | pfxFatalEdCbFd
  /-- three prefix bytes ED CB ED (R134) -/
  | pfxFatalEdCbEd
  /-- three prefix bytes ED CB CB (R134) -/
  | pfxFatalEdCbCb
  /-- three prefix bytes CB DD DD (R134) -/
  | pfxFatalCbDdDd
  /-- three prefix bytes CB DD FD (R134) -/
  | pfxFatalCbDdFd
  /-- three prefix bytes CB DD ED (R134) -/
  | pfxFatalCbDdEd
  /-- three prefix bytes CB DD CB (R134) -/
  | pfxFatalCbDdCb
  /-- three prefix bytes CB FD DD (R134) -/
  | pfxFatalCbFdDd
  /-- three prefix bytes CB FD FD (R134) -/
  | pfxFatalCbFdFd
  /-- three prefix bytes CB FD ED (R134) -/
  | pfxFatalCbFdEd
  /-- three prefix bytes CB FD CB (R134) -/
  | pfxFatalCbFdCb
  /-- three prefix bytes CB ED DD (R134) -/
  | pfxFatalCbEdDd
  /-- three prefix bytes CB ED FD (R134) -/
  | pfxFatalCbEdFd
  /-- three prefix bytes CB ED ED (R134) -/
  | pfxFatalCbEdEd
  /-- three prefix bytes CB ED CB (R134) -/
  | pfxFatalCbEdCb
  /-- three prefix bytes CB CB DD (R134) -/
  | pfxFatalCbCbDd
  /-- three prefix bytes CB CB FD (R134) -/
  | pfxFatalCbCbFd
  /-- three prefix bytes CB CB ED (R134) -/
  | pfxFatalCbCbEd
  /-- three prefix bytes CB CB CB (R134) -/
  | pfxFatalCbCbCb
  /-- NOP (R170) -/
  | nop
  /-- LD BC,nn (R219) -/
  | ldBcNn (nn : Word)
  /-- INC BC (R248) -/
  | incBc
  /-- DEC B (R253) -/
  | decB
  /-- LD B,n (R211) -/
  | ldBN (n : Byte)
  /-- EX AF,AF' (R173) -/
  | exAfAf
  /-- DEC BC (R250) -/
  | decBc
  /-- DJNZ e (R237) -/
  | djnzE (d : Byte)
  /-- LD DE,nn (R220) -/
  | ldDeNn (nn : Word)
  /-- JR e (R234) -/
  | jrE (d : Byte)
  /-- JR NZ,e (R235) -/
  | jrNzE (d : Byte)
  /-- LD HL,nn (R221) -/
  | ldHlNn (nn : Word)
  /-- LD (nn),HL (R225) -/
  | ldMemNnHl (nn : Word)
  /-- INC HL (R249) -/
  | incHl
  /-- JR Z,e (R236) -/
  | jrZE (d : Byte)
  /-- LD HL,(nn) (R226) -/
  | ldHlMemNn (nn : Word)
  /-- DEC HL (R251) -/
  | decHl
  /-- LD SP,nn (R222) -/
  | ldSpNn (nn : Word)
  /-- LD (nn),A (R216) -/
  | ldMemNnA (nn : Word)
  /-- LD A,(nn) (R217) -/
  | ldAMemNn (nn : Word)
  /-- INC A (R252) -/
  | incA
  /-- LD A,n (R210) -/
  | ldAN (n : Byte)
  /-- LD B,A (R213) -/
  | ldBA
  /-- HALT (R171) -/
  | halt
  /-- LD (HL),A (R214) -/
  | ldMemHlA
  /-- LD A,B (R212) -/
  | ldAB
  /-- LD A,(HL) (R215) -/
  | ldAMemHl
  /-- ADD A,B (R254) -/
  | addAB
  /-- XOR A (R255) -/
  | xorA
  /-- POP BC (R245) -/
  | popBc
  /-- JP NZ,nn (R231) -/
  | jpNzNn (nn : Word)
  /-- JP nn (R230) -/
  | jpNn (nn : Word)
  /-- PUSH BC (R242) -/
  | pushBc
  /-- RST 0x00 (R240) -/
  | rst00
  /-- RET (R239) -/
  | ret
  /-- JP Z,nn (R232) -/
  | jpZNn (nn : Word)
  /-- CALL nn (R238) -/
  | callNn (nn : Word)
  /-- RST 0x08 (R240) -/
  | rst08
  /-- RST 0x10 (R240) -/
  | rst10
  /-- EXX (R172) -/
  | exx
  /-- RST 0x18 (R240) -/
  | rst18
  /-- POP HL (R246) -/
  | popHl
  /-- PUSH HL (R243) -/
  | pushHl
  /-- RST 0x20 (R240) -/
  | rst20
  /-- JP (HL) (R233) -/
  | jpHl
  /-- EX DE,HL (R228) -/
  | exDeHl
  /-- RST 0x28 (R240) -/
  | rst28
  /-- POP AF (R247) -/
  | popAf
  /-- DI (R202) -/
  | di
  /-- PUSH AF (R244) -/
  | pushAf
  /-- RST 0x30 (R240) -/
  | rst30
  /-- LD SP,HL (R227) -/
  | ldSpHl
  /-- EI (R203) -/
  | ei
  /-- RST 0x38 (R240) -/
  | rst38
  /-- LD IX,nn (R223) -/
  | ldIxNn (nn : Word)
  /-- LD A,(IX+d) (R218) -/
  | ldAIxd (d : Byte)
  /-- LD IY,nn (R224) -/
  | ldIyNn (nn : Word)
  /-- RETN (R209) -/
  | retn
  /-- IM 0 (R204) -/
  | im0
  /-- LD I,A (R207) -/
  | ldIA
  /-- IM 1 (R205) -/
  | im1
  /-- LD A,I (R208) -/
  | ldAI
  /-- IM 2 (R206) -/
  | im2
  /-- RLC B (R256) -/
  | rlcB
  /-- SYN.JCOND (R175) -/
  | synJcond (d : Byte)
  /-- SYN.PLAIN (R175) -/
  | synPlain (d : Byte)
deriving DecidableEq, Repr

end Sys2Proof
end

