-- ==== Sys2Proof/WellFormed.lean ====
section
/-! DEFINITION. Which terms of `Instr` are instructions. Two checks, both on the pattern
constructors: the final byte is no prefix byte (`30_encoding.md` R84), and the selector is one the
machine's table does not map (a mapped selector is the table's own instruction, log entry 11).
Every other constructor is well formed for every operand. -/

namespace Sys2Proof

/-- The selectors the machine's table maps: the 64 of TREF (`44_reference_table.md` R258) and the
synthetic pair (`42_named_instructions.md` R175). -/
def mappedSelectors : List Nat :=
  [0, 1, 3, 5, 6, 8, 11, 16, 17, 24, 32, 33] ++
  [34, 35, 40, 42, 43, 49, 50, 58, 60, 62, 71, 118] ++
  [119, 120, 126, 128, 175, 193, 194, 195, 197, 199, 201, 202] ++
  [205, 207, 215, 217, 223, 225, 229, 231, 233, 235, 239, 241] ++
  [243, 245, 247, 249, 251, 255, 289, 382, 545, 837, 838, 839] ++
  [854, 855, 862, 1024, 3326, 3327]

/-- A final byte is any byte but the four prefix values (`30_encoding.md` R84, R85). -/
def finalByteOk (o : Byte) : Bool :=
  o != 0xCB && o != 0xDD && o != 0xED && o != 0xFD

/-- The two checks on a pattern constructor: `band` is the pattern's band in the table of R84. -/
def patternOk (band : Nat) (o : Byte) : Bool :=
  finalByteOk o && !mappedSelectors.contains (band * 256 + o.toNat)

/-- The well-formed instructions. -/
def Instr.wellFormed : Instr → Bool
  | .pfxNone o => patternOk 0 o
  | .pfxDd o => patternOk 1 o
  | .pfxFd o => patternOk 2 o
  | .pfxEd o => patternOk 3 o
  | .pfxCb o => patternOk 4 o
  | .pfxDdDd o => patternOk 6 o
  | .pfxDdFd o => patternOk 7 o
  | .pfxDdCb o => patternOk 9 o
  | .pfxFdDd o => patternOk 7 o
  | .pfxFdFd o => patternOk 8 o
  | .pfxFdCb o => patternOk 10 o
  | .pfxEdDd o => patternOk 8 o
  | .pfxEdFd o => patternOk 9 o
  | .pfxEdCb o => patternOk 11 o
  | .pfxCbDd o => patternOk 9 o
  | .pfxCbFd o => patternOk 10 o
  | .pfxCbCb o => patternOk 12 o
  | .pfxDdEd o => patternOk 3 o
  | .pfxFdEd o => patternOk 3 o
  | .pfxEdEd o => patternOk 3 o
  | .pfxCbEd o => patternOk 3 o
  | .pfxFatalDdDdDd | .pfxFatalDdDdFd | .pfxFatalDdDdEd | .pfxFatalDdDdCb | .pfxFatalDdFdDd
  | .pfxFatalDdFdFd | .pfxFatalDdFdEd | .pfxFatalDdFdCb | .pfxFatalDdEdDd | .pfxFatalDdEdFd
  | .pfxFatalDdEdEd | .pfxFatalDdEdCb | .pfxFatalDdCbDd | .pfxFatalDdCbFd | .pfxFatalDdCbEd
  | .pfxFatalDdCbCb | .pfxFatalFdDdDd | .pfxFatalFdDdFd | .pfxFatalFdDdEd | .pfxFatalFdDdCb
  | .pfxFatalFdFdDd | .pfxFatalFdFdFd | .pfxFatalFdFdEd | .pfxFatalFdFdCb | .pfxFatalFdEdDd
  | .pfxFatalFdEdFd | .pfxFatalFdEdEd | .pfxFatalFdEdCb | .pfxFatalFdCbDd | .pfxFatalFdCbFd
  | .pfxFatalFdCbEd | .pfxFatalFdCbCb | .pfxFatalEdDdDd | .pfxFatalEdDdFd | .pfxFatalEdDdEd
  | .pfxFatalEdDdCb | .pfxFatalEdFdDd | .pfxFatalEdFdFd | .pfxFatalEdFdEd | .pfxFatalEdFdCb
  | .pfxFatalEdEdDd | .pfxFatalEdEdFd | .pfxFatalEdEdEd | .pfxFatalEdEdCb | .pfxFatalEdCbDd
  | .pfxFatalEdCbFd | .pfxFatalEdCbEd | .pfxFatalEdCbCb | .pfxFatalCbDdDd | .pfxFatalCbDdFd
  | .pfxFatalCbDdEd | .pfxFatalCbDdCb | .pfxFatalCbFdDd | .pfxFatalCbFdFd | .pfxFatalCbFdEd
  | .pfxFatalCbFdCb | .pfxFatalCbEdDd | .pfxFatalCbEdFd | .pfxFatalCbEdEd | .pfxFatalCbEdCb
  | .pfxFatalCbCbDd | .pfxFatalCbCbFd | .pfxFatalCbCbEd | .pfxFatalCbCbCb | .nop | .ldBcNn _
  | .incBc | .decB | .ldBN _ | .exAfAf | .decBc | .djnzE _ | .ldDeNn _ | .jrE _ | .jrNzE _
  | .ldHlNn _ | .ldMemNnHl _ | .incHl | .jrZE _ | .ldHlMemNn _ | .decHl | .ldSpNn _
  | .ldMemNnA _ | .ldAMemNn _ | .incA | .ldAN _ | .ldBA | .halt | .ldMemHlA | .ldAB | .ldAMemHl
  | .addAB | .xorA | .popBc | .jpNzNn _ | .jpNn _ | .pushBc | .rst00 | .ret | .jpZNn _
  | .callNn _ | .rst08 | .rst10 | .exx | .rst18 | .popHl | .pushHl | .rst20 | .jpHl | .exDeHl
  | .rst28 | .popAf | .di | .pushAf | .rst30 | .ldSpHl | .ei | .rst38 | .ldIxNn _ | .ldAIxd _
  | .ldIyNn _ | .retn | .im0 | .ldIA | .im1 | .ldAI | .im2 | .rlcB | .synJcond _ | .synPlain _ => true

end Sys2Proof
end

