-- ==== Sys2Proof/Decode.lean ====
section
/-! DEFINITION. The decoder and prefix collision resolver (`40_decoder.md`), the reference table's
rows (`44_reference_table.md` R258, `42_named_instructions.md` R175), and the encoder. -/

namespace Sys2Proof

open Sys2Proof.Machine (joinBytes hiByte loByte)

/-- The byte of a prefix (R101). -/
def Prefix.byte : Prefix → Byte
  | .dd => 0xDD
  | .fd => 0xFD
  | .ed => 0xED
  | .cb => 0xCB

/-- Which prefix a byte is, if any: `IsPrefix` of R101. -/
def prefixOf (b : Byte) : Option Prefix :=
  if b = 0xDD then some .dd
  else if b = 0xFD then some .fd
  else if b = 0xED then some .ed
  else if b = 0xCB then some .cb
  else none

/-- `Rank` (R102): DD 1, FD 2, ED 3, CB 4, every other byte 0. -/
def rank (b : Byte) : Nat :=
  if b = 0xDD then 1 else if b = 0xFD then 2 else if b = 0xED then 3 else if b = 0xCB then 4 else 0

/-- What the scan finds (R103, R104): a pattern and a final byte, or three prefix bytes. -/
inductive Scan where
  | opcode (pat : Pattern) (op : Byte)
  | fatal (p q r : Prefix)
deriving DecidableEq, Repr

/-- The scan (R103) with its bound (R104): at most three bytes are read, and three prefix bytes are
the fatal case, tested before the collision rule. -/
def scan (src : Nat → Byte) : Scan :=
  match prefixOf (src 0) with
  | none => .opcode .bare (src 0)
  | some p =>
    match prefixOf (src 1) with
    | none => .opcode (.one p) (src 1)
    | some q =>
      match prefixOf (src 2) with
      | none => .opcode (.two p q) (src 2)
      | some r => .fatal p q r

/-- The prefix collision rule (R105): of two prefix bytes the first is discarded if the second is
0xED. -/
def collide : Pattern → Pattern
  | .two _ .ed => .one .ed
  | pat => pat

/-- The padding rule (R106): bytes 0 and 1 of the padded triple, for a pattern after R105. -/
def padded : Pattern → Byte × Byte
  | .bare => (0x00, 0x00)
  | .one p => (0x00, p.byte)
  | .two p q => (p.byte, q.byte)

/-- The selector formula (R107) on the padded triple. -/
def selectorOf (byte0 byte1 byte2 : Byte) : Nat :=
  (if rank byte0 > 0 then rank byte0 + 4 else 0) * 256 + rank byte1 * 256 + byte2.toNat

/-- The selector of a scanned sequence (R105 to R107). -/
def Pattern.selector (pat : Pattern) (op : Byte) : Nat :=
  selectorOf (padded (collide pat)).1 (padded (collide pat)).2 op

/-- `len` (R108): the bytes collected, a prefix the collision rule discards included. -/
def Pattern.len : Pattern → Nat
  | .bare => 1
  | .one _ => 2
  | .two _ _ => 3

/-- The result of `Decode(src, a)` (R100): a selector and a length, or `FatalDecode` with the three
prefix bytes found (R261). -/
inductive Selected where
  | ok (sel len : Nat)
  | fatal (b0 b1 b2 : Byte)
deriving DecidableEq, Repr

/-- `Decode` (R100 to R108); `src i` is the byte `i` places after the start. -/
def decodeSelector (src : Nat → Byte) : Selected :=
  match scan src with
  | .opcode pat op => .ok (pat.selector op) pat.len
  | .fatal p q r => .fatal p.byte q.byte r.byte

/-- The operand bytes (`41_step_sequencer.md` R148): `n` bytes after the `len` of the sequence, in
ascending order. -/
def operandBytes (src : Nat → Byte) (len n : Nat) : List Byte :=
  (List.range n).map fun i => src (len + i)

/-- `n8 = ops[0]` (`44_reference_table.md` R201); also the displacement byte. -/
def imm8 (ops : List Byte) : Byte := ops.getD 0 0

/-- `nn = ops[1] ++ ops[0]`: low byte first (R201, `20_memory.md` R66). -/
def imm16 (ops : List Byte) : Word := joinBytes (ops.getD 1 0) (ops.getD 0 0)

/-- A cost in a row of the reference table: a number of cycles, or the parameter `DEFAULT_CYCLES`. -/
inductive Cost where
  | cycles (count : Nat)
  | defaultCycles
deriving DecidableEq, Repr

/-- A row of the reference table (R258): selector, operand-byte count, base and alternate cost, and
the instruction made of the operand bytes. -/
structure Row where
  sel : Nat
  n : Nat
  base : Cost
  alt : Cost
  make : List Byte → Instr

/-- TREF (R258), selectors 0 to 32. NOP costs `DEFAULT_CYCLES` (`42_named_instructions.md` R170), whose
value R258 prints (log entry 14). -/
def trefRows0 : List Row := [
  ⟨0, 0, .defaultCycles, .defaultCycles, fun _ => .nop⟩,
  ⟨1, 2, .cycles 10, .cycles 10, fun ops => .ldBcNn (imm16 ops)⟩,
  ⟨3, 0, .cycles 6, .cycles 6, fun _ => .incBc⟩,
  ⟨5, 0, .cycles 4, .cycles 4, fun _ => .decB⟩,
  ⟨6, 1, .cycles 7, .cycles 7, fun ops => .ldBN (imm8 ops)⟩,
  ⟨8, 0, .cycles 4, .cycles 4, fun _ => .exAfAf⟩,
  ⟨11, 0, .cycles 6, .cycles 6, fun _ => .decBc⟩,
  ⟨16, 1, .cycles 8, .cycles 13, fun ops => .djnzE (imm8 ops)⟩,
  ⟨17, 2, .cycles 10, .cycles 10, fun ops => .ldDeNn (imm16 ops)⟩,
  ⟨24, 1, .cycles 12, .cycles 12, fun ops => .jrE (imm8 ops)⟩,
  ⟨32, 1, .cycles 7, .cycles 12, fun ops => .jrNzE (imm8 ops)⟩]

/-- TREF (R258), selectors 33 to 62. -/
def trefRows33 : List Row := [
  ⟨33, 2, .cycles 10, .cycles 10, fun ops => .ldHlNn (imm16 ops)⟩,
  ⟨34, 2, .cycles 16, .cycles 16, fun ops => .ldMemNnHl (imm16 ops)⟩,
  ⟨35, 0, .cycles 6, .cycles 6, fun _ => .incHl⟩,
  ⟨40, 1, .cycles 7, .cycles 12, fun ops => .jrZE (imm8 ops)⟩,
  ⟨42, 2, .cycles 16, .cycles 16, fun ops => .ldHlMemNn (imm16 ops)⟩,
  ⟨43, 0, .cycles 6, .cycles 6, fun _ => .decHl⟩,
  ⟨49, 2, .cycles 10, .cycles 10, fun ops => .ldSpNn (imm16 ops)⟩,
  ⟨50, 2, .cycles 13, .cycles 13, fun ops => .ldMemNnA (imm16 ops)⟩,
  ⟨58, 2, .cycles 13, .cycles 13, fun ops => .ldAMemNn (imm16 ops)⟩,
  ⟨60, 0, .cycles 4, .cycles 4, fun _ => .incA⟩,
  ⟨62, 1, .cycles 7, .cycles 7, fun ops => .ldAN (imm8 ops)⟩]

/-- TREF (R258), selectors 71 to 197. -/
def trefRows71 : List Row := [
  ⟨71, 0, .cycles 4, .cycles 4, fun _ => .ldBA⟩,
  ⟨118, 0, .cycles 4, .cycles 4, fun _ => .halt⟩,
  ⟨119, 0, .cycles 7, .cycles 7, fun _ => .ldMemHlA⟩,
  ⟨120, 0, .cycles 4, .cycles 4, fun _ => .ldAB⟩,
  ⟨126, 0, .cycles 7, .cycles 7, fun _ => .ldAMemHl⟩,
  ⟨128, 0, .cycles 4, .cycles 4, fun _ => .addAB⟩,
  ⟨175, 0, .cycles 4, .cycles 4, fun _ => .xorA⟩,
  ⟨193, 0, .cycles 10, .cycles 10, fun _ => .popBc⟩,
  ⟨194, 2, .cycles 10, .cycles 10, fun ops => .jpNzNn (imm16 ops)⟩,
  ⟨195, 2, .cycles 10, .cycles 10, fun ops => .jpNn (imm16 ops)⟩,
  ⟨197, 0, .cycles 11, .cycles 11, fun _ => .pushBc⟩]

/-- TREF (R258), selectors 199 to 231. -/
def trefRows199 : List Row := [
  ⟨199, 0, .cycles 11, .cycles 11, fun _ => .rst00⟩,
  ⟨201, 0, .cycles 10, .cycles 10, fun _ => .ret⟩,
  ⟨202, 2, .cycles 10, .cycles 10, fun ops => .jpZNn (imm16 ops)⟩,
  ⟨205, 2, .cycles 17, .cycles 17, fun ops => .callNn (imm16 ops)⟩,
  ⟨207, 0, .cycles 11, .cycles 11, fun _ => .rst08⟩,
  ⟨215, 0, .cycles 11, .cycles 11, fun _ => .rst10⟩,
  ⟨217, 0, .cycles 4, .cycles 4, fun _ => .exx⟩,
  ⟨223, 0, .cycles 11, .cycles 11, fun _ => .rst18⟩,
  ⟨225, 0, .cycles 10, .cycles 10, fun _ => .popHl⟩,
  ⟨229, 0, .cycles 11, .cycles 11, fun _ => .pushHl⟩,
  ⟨231, 0, .cycles 11, .cycles 11, fun _ => .rst20⟩]

/-- TREF (R258), selectors 233 to 289. -/
def trefRows233 : List Row := [
  ⟨233, 0, .cycles 4, .cycles 4, fun _ => .jpHl⟩,
  ⟨235, 0, .cycles 4, .cycles 4, fun _ => .exDeHl⟩,
  ⟨239, 0, .cycles 11, .cycles 11, fun _ => .rst28⟩,
  ⟨241, 0, .cycles 10, .cycles 10, fun _ => .popAf⟩,
  ⟨243, 0, .cycles 4, .cycles 4, fun _ => .di⟩,
  ⟨245, 0, .cycles 11, .cycles 11, fun _ => .pushAf⟩,
  ⟨247, 0, .cycles 11, .cycles 11, fun _ => .rst30⟩,
  ⟨249, 0, .cycles 6, .cycles 6, fun _ => .ldSpHl⟩,
  ⟨251, 0, .cycles 4, .cycles 4, fun _ => .ei⟩,
  ⟨255, 0, .cycles 11, .cycles 11, fun _ => .rst38⟩,
  ⟨289, 2, .cycles 14, .cycles 14, fun ops => .ldIxNn (imm16 ops)⟩]

/-- TREF (R258), selectors 382 to 1024. -/
def trefRows382 : List Row := [
  ⟨382, 1, .cycles 19, .cycles 19, fun ops => .ldAIxd (imm8 ops)⟩,
  ⟨545, 2, .cycles 14, .cycles 14, fun ops => .ldIyNn (imm16 ops)⟩,
  ⟨837, 0, .cycles 14, .cycles 14, fun _ => .retn⟩,
  ⟨838, 0, .cycles 8, .cycles 8, fun _ => .im0⟩,
  ⟨839, 0, .cycles 9, .cycles 9, fun _ => .ldIA⟩,
  ⟨854, 0, .cycles 8, .cycles 8, fun _ => .im1⟩,
  ⟨855, 0, .cycles 9, .cycles 9, fun _ => .ldAI⟩,
  ⟨862, 0, .cycles 8, .cycles 8, fun _ => .im2⟩,
  ⟨1024, 0, .cycles 8, .cycles 8, fun _ => .rlcB⟩]

/-- The 64 rows of TREF (R200, R258). -/
def trefRows : List Row :=
  trefRows0 ++ trefRows33 ++ trefRows71 ++ trefRows199 ++ trefRows233 ++ trefRows382

/-- The synthetic pair (`42_named_instructions.md` R175), which a test table maps beside TREF. -/
def syntheticRows : List Row := [
  ⟨3326, 1, .cycles 7, .cycles 12, fun ops => .synJcond (imm8 ops)⟩,
  ⟨3327, 1, .cycles 7, .cycles 12, fun ops => .synPlain (imm8 ops)⟩]

/-- The rows of the table the machine's own `step` runs: TREF with the synthetic pair (log entries
1 and 2). -/
def machineRows : List Row := trefRows ++ syntheticRows

/-- The row of a selector, if the rows map it. -/
def findRow : List Row → Nat → Option Row
  | [], _ => none
  | row :: rest, sel => if row.sel == sel then some row else findRow rest sel

/-- The instruction of an unmapped word: the constructor of its prefix pattern (R113 to R133). -/
def unmappedInstr : Pattern → Byte → Instr
  | .bare, o => .pfxNone o
  | .one .dd, o => .pfxDd o
  | .one .fd, o => .pfxFd o
  | .one .ed, o => .pfxEd o
  | .one .cb, o => .pfxCb o
  | .two .dd .dd, o => .pfxDdDd o
  | .two .dd .fd, o => .pfxDdFd o
  | .two .dd .cb, o => .pfxDdCb o
  | .two .fd .dd, o => .pfxFdDd o
  | .two .fd .fd, o => .pfxFdFd o
  | .two .fd .cb, o => .pfxFdCb o
  | .two .ed .dd, o => .pfxEdDd o
  | .two .ed .fd, o => .pfxEdFd o
  | .two .ed .cb, o => .pfxEdCb o
  | .two .cb .dd, o => .pfxCbDd o
  | .two .cb .fd, o => .pfxCbFd o
  | .two .cb .cb, o => .pfxCbCb o
  | .two .dd .ed, o => .pfxDdEd o
  | .two .fd .ed, o => .pfxFdEd o
  | .two .ed .ed, o => .pfxEdEd o
  | .two .cb .ed, o => .pfxCbEd o

/-- The constructor of a three-prefix sequence (R134). -/
def fatalInstr : Prefix → Prefix → Prefix → Instr
  | .dd, .dd, .dd => .pfxFatalDdDdDd
  | .dd, .dd, .fd => .pfxFatalDdDdFd
  | .dd, .dd, .ed => .pfxFatalDdDdEd
  | .dd, .dd, .cb => .pfxFatalDdDdCb
  | .dd, .fd, .dd => .pfxFatalDdFdDd
  | .dd, .fd, .fd => .pfxFatalDdFdFd
  | .dd, .fd, .ed => .pfxFatalDdFdEd
  | .dd, .fd, .cb => .pfxFatalDdFdCb
  | .dd, .ed, .dd => .pfxFatalDdEdDd
  | .dd, .ed, .fd => .pfxFatalDdEdFd
  | .dd, .ed, .ed => .pfxFatalDdEdEd
  | .dd, .ed, .cb => .pfxFatalDdEdCb
  | .dd, .cb, .dd => .pfxFatalDdCbDd
  | .dd, .cb, .fd => .pfxFatalDdCbFd
  | .dd, .cb, .ed => .pfxFatalDdCbEd
  | .dd, .cb, .cb => .pfxFatalDdCbCb
  | .fd, .dd, .dd => .pfxFatalFdDdDd
  | .fd, .dd, .fd => .pfxFatalFdDdFd
  | .fd, .dd, .ed => .pfxFatalFdDdEd
  | .fd, .dd, .cb => .pfxFatalFdDdCb
  | .fd, .fd, .dd => .pfxFatalFdFdDd
  | .fd, .fd, .fd => .pfxFatalFdFdFd
  | .fd, .fd, .ed => .pfxFatalFdFdEd
  | .fd, .fd, .cb => .pfxFatalFdFdCb
  | .fd, .ed, .dd => .pfxFatalFdEdDd
  | .fd, .ed, .fd => .pfxFatalFdEdFd
  | .fd, .ed, .ed => .pfxFatalFdEdEd
  | .fd, .ed, .cb => .pfxFatalFdEdCb
  | .fd, .cb, .dd => .pfxFatalFdCbDd
  | .fd, .cb, .fd => .pfxFatalFdCbFd
  | .fd, .cb, .ed => .pfxFatalFdCbEd
  | .fd, .cb, .cb => .pfxFatalFdCbCb
  | .ed, .dd, .dd => .pfxFatalEdDdDd
  | .ed, .dd, .fd => .pfxFatalEdDdFd
  | .ed, .dd, .ed => .pfxFatalEdDdEd
  | .ed, .dd, .cb => .pfxFatalEdDdCb
  | .ed, .fd, .dd => .pfxFatalEdFdDd
  | .ed, .fd, .fd => .pfxFatalEdFdFd
  | .ed, .fd, .ed => .pfxFatalEdFdEd
  | .ed, .fd, .cb => .pfxFatalEdFdCb
  | .ed, .ed, .dd => .pfxFatalEdEdDd
  | .ed, .ed, .fd => .pfxFatalEdEdFd
  | .ed, .ed, .ed => .pfxFatalEdEdEd
  | .ed, .ed, .cb => .pfxFatalEdEdCb
  | .ed, .cb, .dd => .pfxFatalEdCbDd
  | .ed, .cb, .fd => .pfxFatalEdCbFd
  | .ed, .cb, .ed => .pfxFatalEdCbEd
  | .ed, .cb, .cb => .pfxFatalEdCbCb
  | .cb, .dd, .dd => .pfxFatalCbDdDd
  | .cb, .dd, .fd => .pfxFatalCbDdFd
  | .cb, .dd, .ed => .pfxFatalCbDdEd
  | .cb, .dd, .cb => .pfxFatalCbDdCb
  | .cb, .fd, .dd => .pfxFatalCbFdDd
  | .cb, .fd, .fd => .pfxFatalCbFdFd
  | .cb, .fd, .ed => .pfxFatalCbFdEd
  | .cb, .fd, .cb => .pfxFatalCbFdCb
  | .cb, .ed, .dd => .pfxFatalCbEdDd
  | .cb, .ed, .fd => .pfxFatalCbEdFd
  | .cb, .ed, .ed => .pfxFatalCbEdEd
  | .cb, .ed, .cb => .pfxFatalCbEdCb
  | .cb, .cb, .dd => .pfxFatalCbCbDd
  | .cb, .cb, .fd => .pfxFatalCbCbFd
  | .cb, .cb, .ed => .pfxFatalCbCbEd
  | .cb, .cb, .cb => .pfxFatalCbCbCb

/-- What the decoder reads: the instruction, the length of its opcode/prefix sequence and its
operand-byte count. A three-prefix sequence has length 0: PC is not advanced over it (R134). -/
structure Decoded where
  instr : Instr
  len : Nat
  n : Nat
deriving DecidableEq, Repr

/-- The decoder: total on any byte source. Three prefix bytes are rejected by name, through their
`pfxFatal…` constructor; every other sequence is an instruction (R88, R89). -/
def decode (src : Nat → Byte) : Decoded :=
  match scan src with
  | .fatal p q r => ⟨fatalInstr p q r, 0, 0⟩
  | .opcode pat op =>
    match findRow machineRows (pat.selector op) with
    | some row => ⟨row.make (operandBytes src pat.len row.n), pat.len, row.n⟩
    | none => ⟨unmappedInstr pat op, pat.len, 0⟩

/-- The byte source of a finite list of bytes; past its end it reads 0. -/
def listSource (bytes : List Byte) : Nat → Byte := fun i => bytes.getD i 0

/-- The bytes of a little-endian 16-bit operand (`20_memory.md` R66). -/
def wordBytes (nn : Word) : List Byte := [loByte nn, hiByte nn]

/-- The encoder, from the encoding column of each rule: the bytes of an instruction in memory
order. -/
def encode : Instr → List Byte
  | .pfxNone o => [o]
  | .pfxDd o => [0xDD, o]
  | .pfxFd o => [0xFD, o]
  | .pfxEd o => [0xED, o]
  | .pfxCb o => [0xCB, o]
  | .pfxDdDd o => [0xDD, 0xDD, o]
  | .pfxDdFd o => [0xDD, 0xFD, o]
  | .pfxDdCb o => [0xDD, 0xCB, o]
  | .pfxFdDd o => [0xFD, 0xDD, o]
  | .pfxFdFd o => [0xFD, 0xFD, o]
  | .pfxFdCb o => [0xFD, 0xCB, o]
  | .pfxEdDd o => [0xED, 0xDD, o]
  | .pfxEdFd o => [0xED, 0xFD, o]
  | .pfxEdCb o => [0xED, 0xCB, o]
  | .pfxCbDd o => [0xCB, 0xDD, o]
  | .pfxCbFd o => [0xCB, 0xFD, o]
  | .pfxCbCb o => [0xCB, 0xCB, o]
  | .pfxDdEd o => [0xDD, 0xED, o]
  | .pfxFdEd o => [0xFD, 0xED, o]
  | .pfxEdEd o => [0xED, 0xED, o]
  | .pfxCbEd o => [0xCB, 0xED, o]
  | .pfxFatalDdDdDd => [0xDD, 0xDD, 0xDD]
  | .pfxFatalDdDdFd => [0xDD, 0xDD, 0xFD]
  | .pfxFatalDdDdEd => [0xDD, 0xDD, 0xED]
  | .pfxFatalDdDdCb => [0xDD, 0xDD, 0xCB]
  | .pfxFatalDdFdDd => [0xDD, 0xFD, 0xDD]
  | .pfxFatalDdFdFd => [0xDD, 0xFD, 0xFD]
  | .pfxFatalDdFdEd => [0xDD, 0xFD, 0xED]
  | .pfxFatalDdFdCb => [0xDD, 0xFD, 0xCB]
  | .pfxFatalDdEdDd => [0xDD, 0xED, 0xDD]
  | .pfxFatalDdEdFd => [0xDD, 0xED, 0xFD]
  | .pfxFatalDdEdEd => [0xDD, 0xED, 0xED]
  | .pfxFatalDdEdCb => [0xDD, 0xED, 0xCB]
  | .pfxFatalDdCbDd => [0xDD, 0xCB, 0xDD]
  | .pfxFatalDdCbFd => [0xDD, 0xCB, 0xFD]
  | .pfxFatalDdCbEd => [0xDD, 0xCB, 0xED]
  | .pfxFatalDdCbCb => [0xDD, 0xCB, 0xCB]
  | .pfxFatalFdDdDd => [0xFD, 0xDD, 0xDD]
  | .pfxFatalFdDdFd => [0xFD, 0xDD, 0xFD]
  | .pfxFatalFdDdEd => [0xFD, 0xDD, 0xED]
  | .pfxFatalFdDdCb => [0xFD, 0xDD, 0xCB]
  | .pfxFatalFdFdDd => [0xFD, 0xFD, 0xDD]
  | .pfxFatalFdFdFd => [0xFD, 0xFD, 0xFD]
  | .pfxFatalFdFdEd => [0xFD, 0xFD, 0xED]
  | .pfxFatalFdFdCb => [0xFD, 0xFD, 0xCB]
  | .pfxFatalFdEdDd => [0xFD, 0xED, 0xDD]
  | .pfxFatalFdEdFd => [0xFD, 0xED, 0xFD]
  | .pfxFatalFdEdEd => [0xFD, 0xED, 0xED]
  | .pfxFatalFdEdCb => [0xFD, 0xED, 0xCB]
  | .pfxFatalFdCbDd => [0xFD, 0xCB, 0xDD]
  | .pfxFatalFdCbFd => [0xFD, 0xCB, 0xFD]
  | .pfxFatalFdCbEd => [0xFD, 0xCB, 0xED]
  | .pfxFatalFdCbCb => [0xFD, 0xCB, 0xCB]
  | .pfxFatalEdDdDd => [0xED, 0xDD, 0xDD]
  | .pfxFatalEdDdFd => [0xED, 0xDD, 0xFD]
  | .pfxFatalEdDdEd => [0xED, 0xDD, 0xED]
  | .pfxFatalEdDdCb => [0xED, 0xDD, 0xCB]
  | .pfxFatalEdFdDd => [0xED, 0xFD, 0xDD]
  | .pfxFatalEdFdFd => [0xED, 0xFD, 0xFD]
  | .pfxFatalEdFdEd => [0xED, 0xFD, 0xED]
  | .pfxFatalEdFdCb => [0xED, 0xFD, 0xCB]
  | .pfxFatalEdEdDd => [0xED, 0xED, 0xDD]
  | .pfxFatalEdEdFd => [0xED, 0xED, 0xFD]
  | .pfxFatalEdEdEd => [0xED, 0xED, 0xED]
  | .pfxFatalEdEdCb => [0xED, 0xED, 0xCB]
  | .pfxFatalEdCbDd => [0xED, 0xCB, 0xDD]
  | .pfxFatalEdCbFd => [0xED, 0xCB, 0xFD]
  | .pfxFatalEdCbEd => [0xED, 0xCB, 0xED]
  | .pfxFatalEdCbCb => [0xED, 0xCB, 0xCB]
  | .pfxFatalCbDdDd => [0xCB, 0xDD, 0xDD]
  | .pfxFatalCbDdFd => [0xCB, 0xDD, 0xFD]
  | .pfxFatalCbDdEd => [0xCB, 0xDD, 0xED]
  | .pfxFatalCbDdCb => [0xCB, 0xDD, 0xCB]
  | .pfxFatalCbFdDd => [0xCB, 0xFD, 0xDD]
  | .pfxFatalCbFdFd => [0xCB, 0xFD, 0xFD]
  | .pfxFatalCbFdEd => [0xCB, 0xFD, 0xED]
  | .pfxFatalCbFdCb => [0xCB, 0xFD, 0xCB]
  | .pfxFatalCbEdDd => [0xCB, 0xED, 0xDD]
  | .pfxFatalCbEdFd => [0xCB, 0xED, 0xFD]
  | .pfxFatalCbEdEd => [0xCB, 0xED, 0xED]
  | .pfxFatalCbEdCb => [0xCB, 0xED, 0xCB]
  | .pfxFatalCbCbDd => [0xCB, 0xCB, 0xDD]
  | .pfxFatalCbCbFd => [0xCB, 0xCB, 0xFD]
  | .pfxFatalCbCbEd => [0xCB, 0xCB, 0xED]
  | .pfxFatalCbCbCb => [0xCB, 0xCB, 0xCB]
  | .nop => [0x00]
  | .ldBcNn nn => [0x01] ++ wordBytes nn
  | .incBc => [0x03]
  | .decB => [0x05]
  | .ldBN n => [0x06, n]
  | .exAfAf => [0x08]
  | .decBc => [0x0B]
  | .djnzE d => [0x10, d]
  | .ldDeNn nn => [0x11] ++ wordBytes nn
  | .jrE d => [0x18, d]
  | .jrNzE d => [0x20, d]
  | .ldHlNn nn => [0x21] ++ wordBytes nn
  | .ldMemNnHl nn => [0x22] ++ wordBytes nn
  | .incHl => [0x23]
  | .jrZE d => [0x28, d]
  | .ldHlMemNn nn => [0x2A] ++ wordBytes nn
  | .decHl => [0x2B]
  | .ldSpNn nn => [0x31] ++ wordBytes nn
  | .ldMemNnA nn => [0x32] ++ wordBytes nn
  | .ldAMemNn nn => [0x3A] ++ wordBytes nn
  | .incA => [0x3C]
  | .ldAN n => [0x3E, n]
  | .ldBA => [0x47]
  | .halt => [0x76]
  | .ldMemHlA => [0x77]
  | .ldAB => [0x78]
  | .ldAMemHl => [0x7E]
  | .addAB => [0x80]
  | .xorA => [0xAF]
  | .popBc => [0xC1]
  | .jpNzNn nn => [0xC2] ++ wordBytes nn
  | .jpNn nn => [0xC3] ++ wordBytes nn
  | .pushBc => [0xC5]
  | .rst00 => [0xC7]
  | .ret => [0xC9]
  | .jpZNn nn => [0xCA] ++ wordBytes nn
  | .callNn nn => [0xCD] ++ wordBytes nn
  | .rst08 => [0xCF]
  | .rst10 => [0xD7]
  | .exx => [0xD9]
  | .rst18 => [0xDF]
  | .popHl => [0xE1]
  | .pushHl => [0xE5]
  | .rst20 => [0xE7]
  | .jpHl => [0xE9]
  | .exDeHl => [0xEB]
  | .rst28 => [0xEF]
  | .popAf => [0xF1]
  | .di => [0xF3]
  | .pushAf => [0xF5]
  | .rst30 => [0xF7]
  | .ldSpHl => [0xF9]
  | .ei => [0xFB]
  | .rst38 => [0xFF]
  | .ldIxNn nn => [0xDD, 0x21] ++ wordBytes nn
  | .ldAIxd d => [0xDD, 0x7E, d]
  | .ldIyNn nn => [0xFD, 0x21] ++ wordBytes nn
  | .retn => [0xED, 0x45]
  | .im0 => [0xED, 0x46]
  | .ldIA => [0xED, 0x47]
  | .im1 => [0xED, 0x56]
  | .ldAI => [0xED, 0x57]
  | .im2 => [0xED, 0x5E]
  | .rlcB => [0xCB, 0x00]
  | .synJcond d => [0xCB, 0xCB, 0xFE, d]
  | .synPlain d => [0xCB, 0xCB, 0xFF, d]

/-- Byte `i` of an instruction given as a number. The opcode table numbers its bits with the byte at
PC the MOST significant (`30_encoding.md` R94), so byte 0 is the top byte of `w`; bytes past the
`nbits / 8` given are 0 (log entry 9). -/
def tableWordByte (nbits w i : Nat) : Byte :=
  if i < nbits / 8 then BitVec.ofNat 8 (w / 256 ^ (nbits / 8 - 1 - i)) else 0

/-- The instruction the decoder reads from an instruction whose bits, numbered as
spec/opcode_table.json numbers them, are `w`. -/
def decodeTableWord (nbits w : Nat) : Option Instr :=
  some (decode (tableWordByte nbits w)).instr

end Sys2Proof
end

