-- ==== Sys2Proof/Config.lean ====
section
/-! DEFINITION. The parameters of `00_scope.md` R8. `Params` holds those that a model takes as
arguments beside TABLE (an argument of the sequencer, log entry 1), MEM (the memory field of the
state, log entry 4) and FRAME_BUDGET (an argument of the frame driver); the sequencer takes a
`Params`. `Config.params` is the one the machine's own `step` runs with: the values R8 gives (log
entries 5 and 14), and for INT_DEVICE, which R8 leaves OPEN, an uninterpreted constant (log entry 3). -/

namespace Sys2Proof

/-- The parameters of R8 that the sequencer takes. -/
structure Params where
  /-- `WRITABLE` (D26): whether `writeByte` at an address changes what `readByte` returns there -/
  writable : Word → Bool
  /-- `DEFAULT_CYCLES` (D6): cost of the default no-operation -/
  defaultCycles : Nat
  /-- `HALT_IDLE_CYCLES` (D9): cost of a step taken while halted -/
  haltIdleCycles : Nat
  /-- `IM1_VECTOR`: handler address of a maskable interrupt in mode 1 -/
  im1Vector : Word
  /-- `NMI_VECTOR` (D16): handler address of a non-maskable interrupt -/
  nmiVector : Word
  /-- `INT_DEVICE` (D20): byte 0 is the low byte of the mode 2 vector address, bytes 0, 1, 2, ... are
  the mode 0 instruction bytes -/
  intDevice : Nat → Byte
  /-- `NMI_ACK_CYCLES` (D21) -/
  nmiAckCycles : Nat
  /-- `IM1_ACK_CYCLES` (D21) -/
  im1AckCycles : Nat
  /-- `IM2_ACK_CYCLES` (D21) -/
  im2AckCycles : Nat
  /-- `IM0_ACK_EXTRA` (D21): added to the cost of the device's instruction in mode 0 -/
  im0AckExtra : Nat

/-- `WRITABLE` by default (R8, D26): true everywhere. -/
def Config.writable : Word → Bool := fun _ => true

/-- `INT_DEVICE` (R8, D20), OPEN. A FREE VALUE: it has no body, so no proof can see what the device
supplies (log entry 3). -/
opaque Config.intDevice : Nat → Byte

/-- The values R8 gives, with the uninterpreted device. -/
def Config.params : Params where
  writable := Config.writable
  defaultCycles := 4
  haltIdleCycles := 4
  im1Vector := 0x0038
  nmiVector := 0x0066
  intDevice := Config.intDevice
  nmiAckCycles := 11
  im1AckCycles := 13
  im2AckCycles := 19
  im0AckExtra := 2

end Sys2Proof
end

