-- ==== Sys2Proof/Machine/State.lean ====
section
/-! DEFINITION. The state record of the core (`10_state.md` R20), its memory, the reasons a step can
stop, and the state after reset (`10_state.md` R50, R51; `70_reset_and_hazards.md` R301). -/

namespace Sys2Proof.Machine

/-- The interrupt mode (R37): one of 0, 1, 2; no other value can be stored. -/
inductive IMode where
  | mode0 | mode1 | mode2
deriving DecidableEq, Repr

/-- What `FatalDecode` records (`60_exceptions.md` R261): where the scan began (PC for an ordinary
step, 0 for a mode 0 acceptance) and the three prefix bytes found. -/
structure FatalInfo where
  start : Word
  b0 : Byte
  b1 : Byte
  b2 : Byte
deriving DecidableEq, Repr

/-- The memory (`20_memory.md` R60, R61): (address, byte) pairs, addresses strictly rising and below
65536, no entry equal to what an unlisted address reads as (`Memory.wf`, log entry 4). -/
abbrev Memory := List Host.Cell

/-- The state record (R20). The halves of the pairs, the flag bits, I and R are views
(`Machine/Ops.lean`), not storage. -/
structure State where
  /-- main pair AF (R21): A high, F low -/
  af : Word
  /-- main pair BC (R21) -/
  bc : Word
  /-- main pair DE (R21) -/
  de : Word
  /-- main pair HL (R21) -/
  hl : Word
  /-- shadow pair of AF (R26) -/
  afx : Word
  /-- shadow pair of BC (R26) -/
  bcx : Word
  /-- shadow pair of DE (R26) -/
  dex : Word
  /-- shadow pair of HL (R26) -/
  hlx : Word
  /-- index register IX (R28) -/
  ix : Word
  /-- index register IY (R28) -/
  iy : Word
  /-- I (interrupt-vector byte, high) and R (memory-refresh byte, low) (R29, R30) -/
  ir : Word
  /-- program counter (R31) -/
  pc : Word
  /-- stack pointer (R34) -/
  sp : Word
  /-- maskable-interrupt-enabled (R35) -/
  iff1 : Bool
  /-- the shadow that restores IFF1 after an NMI (R36) -/
  iff2 : Bool
  /-- interrupt mode (R37) -/
  im : IMode
  /-- halt flag (R38) -/
  halt : Bool
  /-- maskable request latch (R40) -/
  intp : Bool
  /-- non-maskable request latch (R41) -/
  nmip : Bool
  /-- total of the reported cycles since reset (R42): a natural, never wrapping -/
  tcyc : Nat
  /-- fatal decode latch (R43) -/
  fatal : Bool
  /-- what the fatal decode error recorded (R261): the model's own field (log entry 7) -/
  fatalInfo : Option FatalInfo
  /-- the memory (R60) -/
  mem : Memory
deriving DecidableEq, Repr

/-- The reasons a transition stops. -/
inductive Fault where
  /-- Raised by `stepWith` (hence `step`) and by every host operation (`isHalted`, the snapshot and the
  frame driver among them) on a state whose FATAL latch is set: no further step or host
  operation exists (`60_exceptions.md` R260, `41_step_sequencer.md` R145, `43_host_interface.md` R190).
  Safe: the spec has no transition here. -/
  | sessionOver
  /-- Raised by the host operation that loads an image, for an image longer than the address space:
  a load failure is the collaborator's, and the core is not started on a partial image
  (`60_exceptions.md` R264, log entry 19). No instruction raises it. Safe. -/
  | imageTooLong
deriving DecidableEq, Repr

/-- The reasons an instruction has no meaning. -/
inductive Refusal where
  /-- Raised by an arm of `exec` whose instruction has no meaning yet; none is left. Safe. -/
  | notModelled (mnemonic : String)
deriving DecidableEq, Repr

/-- The launch state for a given memory: R50 for the registers and flip-flops, R51 for IM, HALT, INTP,
NMIP, TCYC and FATAL (log entry 13). The whole initial memory is an argument: no content is assumed
(`20_memory.md` R77). -/
def State.launch (mem : Memory) : State where
  af := 0xFFFF
  bc := 0xFFFF
  de := 0xFFFF
  hl := 0xFFFF
  afx := 0xFFFF
  bcx := 0xFFFF
  dex := 0xFFFF
  hlx := 0xFFFF
  ix := 0xFFFF
  iy := 0xFFFF
  ir := 0x00FF
  pc := 0x0000
  sp := 0xFFFF
  iff1 := false
  iff2 := false
  im := .mode0
  halt := false
  intp := false
  nmip := false
  tcyc := 0
  fatal := false
  fatalInfo := none
  mem := mem

/-- The state after reset that the host's interface names: the launch state whose memory list is empty
(log entry 4 says what that stands for). -/
def State.reset : State := State.launch []

end Sys2Proof.Machine
end

