-- ==== Sys2Proof/Machine/Memory.lean ====
section
/-! DEFINITION. The MemoryBus (`20_memory.md` R60) as plain data: reading and writing one byte of the
list that holds the memory, in its canonical form. -/

namespace Sys2Proof.Machine

/-- What an address that is not listed reads as. The spec fixes no initial content (R77); since every
content of the 65536 bytes has exactly one canonical list, this byte only decides which content the
empty list stands for (log entry 4). -/
def unlistedByte : Byte := 0x00

/-- The byte at an address. -/
def memGet : Memory → Nat → Byte
  | [], _ => unlistedByte
  | (b, w) :: rest, a => if b = a then w else memGet rest a

/-- The list without an address. -/
def memErase : Memory → Nat → Memory
  | [], _ => []
  | (b, w) :: rest, a => if b = a then memErase rest a else (b, w) :: memErase rest a

/-- The list with a cell put before the first higher address. -/
def memInsert : Memory → Nat → Byte → Memory
  | [], a, v => [(a, v)]
  | (b, w) :: rest, a, v => if a < b then (a, v) :: (b, w) :: rest else (b, w) :: memInsert rest a v

/-- The memory after a write of one byte: writing what an unlisted address reads as removes the
entry. -/
def memPut (m : Memory) (a : Nat) (v : Byte) : Memory :=
  if v = unlistedByte then memErase m a else memInsert (memErase m a) a v

/-- The addresses of a list are at least `low` and strictly rising, below 65536, and no entry is the
unlisted byte. -/
def memWfFrom : Nat → Memory → Bool
  | _, [] => true
  | low, (a, v) :: rest =>
    decide (low ≤ a) && decide (a < 65536) && decide (v ≠ unlistedByte) && memWfFrom (a + 1) rest

/-- The canonical form: addresses strictly rising and below 65536, no entry equal to what an unlisted
address reads as. -/
def Memory.wf (m : Memory) : Bool := memWfFrom 0 m

end Sys2Proof.Machine
end

