-- ==== Sys2Proof/Machine/Ops.lean ====
section
/-! DEFINITION. The named operations over registers and memory: the views of the register pairs
(`10_state.md` R22, R28, R29), byte and word accesses (`00_scope.md` R11), the stack
(`41_step_sequencer.md` R158, R159), taking the fatal exception and an interrupt
(`60_exceptions.md` R260, R272 to R276), and the return from a handler. -/

namespace Sys2Proof.Machine

/-! ### Registers -/

/-- The thirteen words of the register file (R20). -/
inductive Reg16 where
  | af | bc | de | hl | afx | bcx | dex | hlx | ix | iy | ir | pc | sp
deriving DecidableEq, Repr

/-- Read a word register. -/
def readReg : Reg16 → State → Word
  | .af, s => s.af
  | .bc, s => s.bc
  | .de, s => s.de
  | .hl, s => s.hl
  | .afx, s => s.afx
  | .bcx, s => s.bcx
  | .dex, s => s.dex
  | .hlx, s => s.hlx
  | .ix, s => s.ix
  | .iy, s => s.iy
  | .ir, s => s.ir
  | .pc, s => s.pc
  | .sp, s => s.sp

/-- Write a word register. -/
def writeReg : Reg16 → Word → State → State
  | .af, v, s => { s with af := v }
  | .bc, v, s => { s with bc := v }
  | .de, v, s => { s with de := v }
  | .hl, v, s => { s with hl := v }
  | .afx, v, s => { s with afx := v }
  | .bcx, v, s => { s with bcx := v }
  | .dex, v, s => { s with dex := v }
  | .hlx, v, s => { s with hlx := v }
  | .ix, v, s => { s with ix := v }
  | .iy, v, s => { s with iy := v }
  | .ir, v, s => { s with ir := v }
  | .pc, v, s => { s with pc := v }
  | .sp, v, s => { s with sp := v }

/-- The named halves: views, not storage (R22, R28, R29). The shadow pairs have no halves (R26). -/
inductive Reg8 where
  | a | f | b | c | d | e | h | l | ixh | ixl | iyh | iyl | i | r
deriving DecidableEq, Repr

/-- The word a half is part of. -/
def Reg8.home : Reg8 → Reg16
  | .a | .f => .af
  | .b | .c => .bc
  | .d | .e => .de
  | .h | .l => .hl
  | .ixh | .ixl => .ix
  | .iyh | .iyl => .iy
  | .i | .r => .ir

/-- Whether a half is bits 15:8 of its word. -/
def Reg8.isHigh : Reg8 → Bool
  | .a | .b | .d | .h | .ixh | .iyh | .i => true
  | .f | .c | .e | .l | .ixl | .iyl | .r => false

/-- Read a half (R22). -/
def read8 (reg : Reg8) (s : State) : Byte :=
  if reg.isHigh then hiByte (readReg reg.home s) else loByte (readReg reg.home s)

/-- Write a half; the other half of the word is unchanged (R22). -/
def write8 (reg : Reg8) (v : Byte) (s : State) : State :=
  writeReg reg.home
    (if reg.isHigh then joinBytes v (loByte (readReg reg.home s))
     else joinBytes (hiByte (readReg reg.home s)) v) s

/-! ### Memory -/

/-- `MEM.readByte` (`20_memory.md` R60): total, without side effect. -/
def readByte (a : Word) (s : State) : Byte := memGet s.mem a.toNat

/-- `MEM.writeByte` (R60 (b)) for a writability map: the write is lost where the map is false. -/
def storeByte (writable : Word → Bool) (a : Word) (v : Byte) (s : State) : State :=
  { s with mem := if writable a then memPut s.mem a.toNat v else s.mem }

/-- `MemWrite(a, 1, v)` (`00_scope.md` R11) with the default map. -/
def writeByte (a : Word) (v : Byte) (s : State) : State := storeByte Config.writable a v s

/-- `MemRead(a, 2)`: low byte at the lower address (R11, R66). -/
def readWord (a : Word) (s : State) : Word := joinBytes (readByte (a + 1) s) (readByte a s)

/-- `MemWrite(a, 2, v)` for a writability map: the low byte to `a`, then the high byte to `a +16 1`
(R11, R66, R68). -/
def writeWordWith (writable : Word → Bool) (a : Word) (v : Word) (s : State) : State :=
  storeByte writable (a + 1) (hiByte v) (storeByte writable a (loByte v) s)

/-- `MemWrite(a, 2, v)` with the default map. -/
def writeWord (a : Word) (v : Word) (s : State) : State := writeWordWith Config.writable a v s

/-! ### The stack -/

/-- Decrement SP, then store a byte there: one half of `Push16`. -/
def pushByte (writable : Word → Bool) (v : Byte) (s : State) : State :=
  storeByte writable (s.sp - 1) v { s with sp := s.sp - 1 }

/-- `Push16(v)` (R158) for a writability map: high byte, then low byte. -/
def push16With (writable : Word → Bool) (v : Word) (s : State) : State :=
  pushByte writable (loByte v) (pushByte writable (hiByte v) s)

/-- `Pop16()` (R159): the word at SP, and the state with SP two higher. -/
def pop16 (s : State) : Word × State :=
  (joinBytes (readByte (s.sp + 1) s) (readByte s.sp s), { s with sp := s.sp + 1 + 1 })

/-! ### No effect -/

/-- The transition function of the default descriptor (R170): the identity. -/
def defaultNoOp (s : State) : State := s

/-! ### Exceptions and interrupts -/

/-- `raise FatalDecode(a, b0, b1, b2)` (R260, R261): FATAL becomes 1, the information is recorded, and
nothing else changes (log entry 6). -/
def raiseFatal (start : Word) (b0 b1 b2 : Byte) (s : State) : State :=
  { s with fatal := true, fatalInfo := some ⟨start, b0, b1, b2⟩ }

/-- Enter a handler: push PC and go to the handler's address (R272, R275, R276). -/
def enterHandler (writable : Word → Bool) (target : Word) (s : State) : State :=
  { push16With writable s.pc s with pc := target }

/-- The flip-flops and the halt flag on acceptance of an NMI (R272): IFF2 is left as it is. -/
def clearForNmi (s : State) : State := { s with halt := false, iff1 := false }

/-- The flip-flops and the halt flag on acceptance of a maskable interrupt (R273). -/
def clearForInt (s : State) : State := { s with halt := false, iff1 := false, iff2 := false }

/-- `AcceptNMI` (R272), its cycles apart. -/
def takeNmi (p : Params) (s : State) : State :=
  enterHandler p.writable p.nmiVector (clearForNmi s)

/-- Acceptance in mode 1 (R273, R275), its cycles apart. -/
def takeInt1 (p : Params) (s : State) : State :=
  enterHandler p.writable p.im1Vector (clearForInt s)

/-- Acceptance in mode 2 (R273, R276), its cycles apart: PC is pushed before the table entry at
`I ++ INT_DEVICE(0)` is read. -/
def takeInt2 (p : Params) (s : State) : State :=
  let pushed := push16With p.writable s.pc (clearForInt s)
  { pushed with pc := readWord (joinBytes (read8 .i pushed) (p.intDevice 0)) pushed }

/-- `PC <- Pop16()`: a return (R174, R239). -/
def returnPop (s : State) : State := { (pop16 s).2 with pc := (pop16 s).1 }

/-- The return from an NMI handler (R209): `PC <- Pop16(); IFF1 <- IFF2`. -/
def returnFromNmi (s : State) : State := { returnPop s with iff1 := s.iff2 }

end Sys2Proof.Machine
end

