-- ==== Sys2Proof/Machine/Flags.lean ====
section
/-! DEFINITION. The flag bits (`10_state.md` R23) and every flag computation of the reference table
(`44_reference_table.md` R201, R208, R252 to R256). -/

namespace Sys2Proof.Machine

/-- The bits of F by their names in R23. -/
inductive Flag where
  | s | z | y | hf | x | pv | n | cf
deriving DecidableEq, Repr

/-- The bit number of a flag in F (R23). -/
def Flag.bit : Flag → Nat
  | .s => 7
  | .z => 6
  | .y => 5
  | .hf => 4
  | .x => 3
  | .pv => 2
  | .n => 1
  | .cf => 0

/-- A flag of the state. -/
def flag (fl : Flag) (s : State) : Bool := (read8 .f s).getLsbD fl.bit

/-- A mask of one flag (R23), or 0. -/
def flagIf (cond : Bool) (fl : Flag) : Byte := if cond then BitVec.ofNat 8 (2 ^ fl.bit) else 0

/-- `parity(b)` (`00_scope.md` R11): true when the byte has an even number of 1 bits. -/
def parityEven (b : Byte) : Bool :=
  !(b.getLsbD 0 ^^ b.getLsbD 1 ^^ b.getLsbD 2 ^^ b.getLsbD 3 ^^
    b.getLsbD 4 ^^ b.getLsbD 5 ^^ b.getLsbD 6 ^^ b.getLsbD 7)

/-- `SZYX(r)` (R201): S from bit 7, Z from zero, Y and X copied from bits 5 and 3. -/
def szyx (r : Byte) : Byte := (r &&& 0x80) ||| flagIf (r == 0) .z ||| (r &&& 0x28)

/-- "CF kept" (R201). -/
def keepCf (f : Byte) : Byte := f &&& 0x01

/-- F after INC (R252): `old` the operand, `r` the result, `f` the old F. -/
def incFlags (old r f : Byte) : Byte :=
  szyx r ||| flagIf ((old &&& 0x0F) == 0x0F) .hf ||| flagIf (old == 0x7F) .pv ||| keepCf f

/-- F after DEC (R253). -/
def decFlags (old r f : Byte) : Byte :=
  szyx r ||| flagIf ((old &&& 0x0F) == 0x00) .hf ||| flagIf (old == 0x80) .pv ||| flagIf true .n |||
    keepCf f

/-- F after ADD (R254): `a` and `b` the operands, `r` the sum modulo 256. -/
def addFlags (a b r : Byte) : Byte :=
  szyx r ||| flagIf (decide ((a &&& 0x0F).toNat + (b &&& 0x0F).toNat > 0x0F)) .hf |||
    flagIf (((a ^^^ r) &&& (b ^^^ r) &&& 0x80) != 0) .pv |||
    flagIf (decide (a.toNat + b.toNat > 255)) .cf

/-- F after XOR (R255): parity in PV, all else but SZYX clear. -/
def xorFlags (r : Byte) : Byte := szyx r ||| flagIf (parityEven r) .pv

/-- F after RLC (R256): `c` is the bit rotated out. -/
def rlcFlags (r : Byte) (c : Bool) : Byte :=
  szyx r ||| flagIf (parityEven r) .pv ||| flagIf c .cf

/-- F after LD A,I (R208): IFF2 in PV, HF and N clear, CF kept. -/
def ldAIFlags (i f : Byte) (iff2 : Bool) : Byte :=
  szyx i ||| flagIf iff2 .pv ||| keepCf f

end Sys2Proof.Machine
end

