-- ==== Sys2Proof/Machine/Arith.lean ====
section
/-! DEFINITION. 16-bit increment and decrement, 8-bit arithmetic and rotate
(`44_reference_table.md` sections 7 and 8, R248 to R256). The 16-bit forms write no flag. -/

namespace Sys2Proof.Machine

/-- INC BC (R248). -/
def execIncBc (s : State) : Host.Outcome State Fault Refusal :=
  .next (writeReg .bc (s.bc + 1) s)

/-- INC HL (R249). -/
def execIncHl (s : State) : Host.Outcome State Fault Refusal :=
  .next (writeReg .hl (s.hl + 1) s)

/-- DEC BC (R250). -/
def execDecBc (s : State) : Host.Outcome State Fault Refusal :=
  .next (writeReg .bc (s.bc - 1) s)

/-- DEC HL (R251). -/
def execDecHl (s : State) : Host.Outcome State Fault Refusal :=
  .next (writeReg .hl (s.hl - 1) s)

/-- INC A (R252). -/
def execIncA (s : State) : Host.Outcome State Fault Refusal :=
  let r := read8 .a s + 1
  .next (write8 .f (incFlags (read8 .a s) r (read8 .f s)) (write8 .a r s))

/-- DEC B (R253). -/
def execDecB (s : State) : Host.Outcome State Fault Refusal :=
  let r := read8 .b s - 1
  .next (write8 .f (decFlags (read8 .b s) r (read8 .f s)) (write8 .b r s))

/-- ADD A,B (R254). -/
def execAddAB (s : State) : Host.Outcome State Fault Refusal :=
  let r := read8 .a s + read8 .b s
  .next (write8 .f (addFlags (read8 .a s) (read8 .b s) r) (write8 .a r s))

/-- XOR A (R255): `A <- A ^ A`. -/
def execXorA (s : State) : Host.Outcome State Fault Refusal :=
  let r := read8 .a s ^^^ read8 .a s
  .next (write8 .f (xorFlags r) (write8 .a r s))

/-- RLC B (R256): rotate left by one, bit 7 into bit 0 and into CF. -/
def execRlcB (s : State) : Host.Outcome State Fault Refusal :=
  let r := (read8 .b s).rotateLeft 1
  .next (write8 .f (rlcFlags r ((read8 .b s).getLsbD 7)) (write8 .b r s))

end Sys2Proof.Machine
end

