-- ==== Sys2Proof/Machine/Fatal.lean ====
section
/-! DEFINITION. The 64 three-prefix sequences (`40_decoder.md` R134): each raises `FatalDecode`
(`60_exceptions.md` R260) through the one shared operation `raiseFatal`. The start address it
records is PC, which has not been advanced (R261, log entry 8). -/

namespace Sys2Proof.Machine

/-- DD DD DD (R134). -/
def execPfxFatalDdDdDd (s : State) : Host.Outcome State Fault Refusal :=
  .next (raiseFatal s.pc 0xDD 0xDD 0xDD s)

/-- DD DD FD (R134). -/
def execPfxFatalDdDdFd (s : State) : Host.Outcome State Fault Refusal :=
  .next (raiseFatal s.pc 0xDD 0xDD 0xFD s)

/-- DD DD ED (R134). -/
def execPfxFatalDdDdEd (s : State) : Host.Outcome State Fault Refusal :=
  .next (raiseFatal s.pc 0xDD 0xDD 0xED s)

/-- DD DD CB (R134). -/
def execPfxFatalDdDdCb (s : State) : Host.Outcome State Fault Refusal :=
  .next (raiseFatal s.pc 0xDD 0xDD 0xCB s)

/-- DD FD DD (R134). -/
def execPfxFatalDdFdDd (s : State) : Host.Outcome State Fault Refusal :=
  .next (raiseFatal s.pc 0xDD 0xFD 0xDD s)

/-- DD FD FD (R134). -/
def execPfxFatalDdFdFd (s : State) : Host.Outcome State Fault Refusal :=
  .next (raiseFatal s.pc 0xDD 0xFD 0xFD s)

/-- DD FD ED (R134). -/
def execPfxFatalDdFdEd (s : State) : Host.Outcome State Fault Refusal :=
  .next (raiseFatal s.pc 0xDD 0xFD 0xED s)

/-- DD FD CB (R134). -/
def execPfxFatalDdFdCb (s : State) : Host.Outcome State Fault Refusal :=
  .next (raiseFatal s.pc 0xDD 0xFD 0xCB s)

/-- DD ED DD (R134). -/
def execPfxFatalDdEdDd (s : State) : Host.Outcome State Fault Refusal :=
  .next (raiseFatal s.pc 0xDD 0xED 0xDD s)

/-- DD ED FD (R134). -/
def execPfxFatalDdEdFd (s : State) : Host.Outcome State Fault Refusal :=
  .next (raiseFatal s.pc 0xDD 0xED 0xFD s)

/-- DD ED ED (R134). -/
def execPfxFatalDdEdEd (s : State) : Host.Outcome State Fault Refusal :=
  .next (raiseFatal s.pc 0xDD 0xED 0xED s)

/-- DD ED CB (R134). -/
def execPfxFatalDdEdCb (s : State) : Host.Outcome State Fault Refusal :=
  .next (raiseFatal s.pc 0xDD 0xED 0xCB s)

/-- DD CB DD (R134). -/
def execPfxFatalDdCbDd (s : State) : Host.Outcome State Fault Refusal :=
  .next (raiseFatal s.pc 0xDD 0xCB 0xDD s)

/-- DD CB FD (R134). -/
def execPfxFatalDdCbFd (s : State) : Host.Outcome State Fault Refusal :=
  .next (raiseFatal s.pc 0xDD 0xCB 0xFD s)

/-- DD CB ED (R134). -/
def execPfxFatalDdCbEd (s : State) : Host.Outcome State Fault Refusal :=
  .next (raiseFatal s.pc 0xDD 0xCB 0xED s)

/-- DD CB CB (R134). -/
def execPfxFatalDdCbCb (s : State) : Host.Outcome State Fault Refusal :=
  .next (raiseFatal s.pc 0xDD 0xCB 0xCB s)

/-- FD DD DD (R134). -/
def execPfxFatalFdDdDd (s : State) : Host.Outcome State Fault Refusal :=
  .next (raiseFatal s.pc 0xFD 0xDD 0xDD s)

/-- FD DD FD (R134). -/
def execPfxFatalFdDdFd (s : State) : Host.Outcome State Fault Refusal :=
  .next (raiseFatal s.pc 0xFD 0xDD 0xFD s)

/-- FD DD ED (R134). -/
def execPfxFatalFdDdEd (s : State) : Host.Outcome State Fault Refusal :=
  .next (raiseFatal s.pc 0xFD 0xDD 0xED s)

/-- FD DD CB (R134). -/
def execPfxFatalFdDdCb (s : State) : Host.Outcome State Fault Refusal :=
  .next (raiseFatal s.pc 0xFD 0xDD 0xCB s)

/-- FD FD DD (R134). -/
def execPfxFatalFdFdDd (s : State) : Host.Outcome State Fault Refusal :=
  .next (raiseFatal s.pc 0xFD 0xFD 0xDD s)

/-- FD FD FD (R134). -/
def execPfxFatalFdFdFd (s : State) : Host.Outcome State Fault Refusal :=
  .next (raiseFatal s.pc 0xFD 0xFD 0xFD s)

/-- FD FD ED (R134). -/
def execPfxFatalFdFdEd (s : State) : Host.Outcome State Fault Refusal :=
  .next (raiseFatal s.pc 0xFD 0xFD 0xED s)

/-- FD FD CB (R134). -/
def execPfxFatalFdFdCb (s : State) : Host.Outcome State Fault Refusal :=
  .next (raiseFatal s.pc 0xFD 0xFD 0xCB s)

/-- FD ED DD (R134). -/
def execPfxFatalFdEdDd (s : State) : Host.Outcome State Fault Refusal :=
  .next (raiseFatal s.pc 0xFD 0xED 0xDD s)

/-- FD ED FD (R134). -/
def execPfxFatalFdEdFd (s : State) : Host.Outcome State Fault Refusal :=
  .next (raiseFatal s.pc 0xFD 0xED 0xFD s)

/-- FD ED ED (R134). -/
def execPfxFatalFdEdEd (s : State) : Host.Outcome State Fault Refusal :=
  .next (raiseFatal s.pc 0xFD 0xED 0xED s)

/-- FD ED CB (R134). -/
def execPfxFatalFdEdCb (s : State) : Host.Outcome State Fault Refusal :=
  .next (raiseFatal s.pc 0xFD 0xED 0xCB s)

/-- FD CB DD (R134). -/
def execPfxFatalFdCbDd (s : State) : Host.Outcome State Fault Refusal :=
  .next (raiseFatal s.pc 0xFD 0xCB 0xDD s)

/-- FD CB FD (R134). -/
def execPfxFatalFdCbFd (s : State) : Host.Outcome State Fault Refusal :=
  .next (raiseFatal s.pc 0xFD 0xCB 0xFD s)

/-- FD CB ED (R134). -/
def execPfxFatalFdCbEd (s : State) : Host.Outcome State Fault Refusal :=
  .next (raiseFatal s.pc 0xFD 0xCB 0xED s)

/-- FD CB CB (R134). -/
def execPfxFatalFdCbCb (s : State) : Host.Outcome State Fault Refusal :=
  .next (raiseFatal s.pc 0xFD 0xCB 0xCB s)

/-- ED DD DD (R134). -/
def execPfxFatalEdDdDd (s : State) : Host.Outcome State Fault Refusal :=
  .next (raiseFatal s.pc 0xED 0xDD 0xDD s)

/-- ED DD FD (R134). -/
def execPfxFatalEdDdFd (s : State) : Host.Outcome State Fault Refusal :=
  .next (raiseFatal s.pc 0xED 0xDD 0xFD s)

/-- ED DD ED (R134). -/
def execPfxFatalEdDdEd (s : State) : Host.Outcome State Fault Refusal :=
  .next (raiseFatal s.pc 0xED 0xDD 0xED s)

/-- ED DD CB (R134). -/
def execPfxFatalEdDdCb (s : State) : Host.Outcome State Fault Refusal :=
  .next (raiseFatal s.pc 0xED 0xDD 0xCB s)

/-- ED FD DD (R134). -/
def execPfxFatalEdFdDd (s : State) : Host.Outcome State Fault Refusal :=
  .next (raiseFatal s.pc 0xED 0xFD 0xDD s)

/-- ED FD FD (R134). -/
def execPfxFatalEdFdFd (s : State) : Host.Outcome State Fault Refusal :=
  .next (raiseFatal s.pc 0xED 0xFD 0xFD s)

/-- ED FD ED (R134). -/
def execPfxFatalEdFdEd (s : State) : Host.Outcome State Fault Refusal :=
  .next (raiseFatal s.pc 0xED 0xFD 0xED s)

/-- ED FD CB (R134). -/
def execPfxFatalEdFdCb (s : State) : Host.Outcome State Fault Refusal :=
  .next (raiseFatal s.pc 0xED 0xFD 0xCB s)

/-- ED ED DD (R134). -/
def execPfxFatalEdEdDd (s : State) : Host.Outcome State Fault Refusal :=
  .next (raiseFatal s.pc 0xED 0xED 0xDD s)

/-- ED ED FD (R134). -/
def execPfxFatalEdEdFd (s : State) : Host.Outcome State Fault Refusal :=
  .next (raiseFatal s.pc 0xED 0xED 0xFD s)

/-- ED ED ED (R134). -/
def execPfxFatalEdEdEd (s : State) : Host.Outcome State Fault Refusal :=
  .next (raiseFatal s.pc 0xED 0xED 0xED s)

/-- ED ED CB (R134). -/
def execPfxFatalEdEdCb (s : State) : Host.Outcome State Fault Refusal :=
  .next (raiseFatal s.pc 0xED 0xED 0xCB s)

/-- ED CB DD (R134). -/
def execPfxFatalEdCbDd (s : State) : Host.Outcome State Fault Refusal :=
  .next (raiseFatal s.pc 0xED 0xCB 0xDD s)

/-- ED CB FD (R134). -/
def execPfxFatalEdCbFd (s : State) : Host.Outcome State Fault Refusal :=
  .next (raiseFatal s.pc 0xED 0xCB 0xFD s)

/-- ED CB ED (R134). -/
def execPfxFatalEdCbEd (s : State) : Host.Outcome State Fault Refusal :=
  .next (raiseFatal s.pc 0xED 0xCB 0xED s)

/-- ED CB CB (R134). -/
def execPfxFatalEdCbCb (s : State) : Host.Outcome State Fault Refusal :=
  .next (raiseFatal s.pc 0xED 0xCB 0xCB s)

/-- CB DD DD (R134). -/
def execPfxFatalCbDdDd (s : State) : Host.Outcome State Fault Refusal :=
  .next (raiseFatal s.pc 0xCB 0xDD 0xDD s)

/-- CB DD FD (R134). -/
def execPfxFatalCbDdFd (s : State) : Host.Outcome State Fault Refusal :=
  .next (raiseFatal s.pc 0xCB 0xDD 0xFD s)

/-- CB DD ED (R134). -/
def execPfxFatalCbDdEd (s : State) : Host.Outcome State Fault Refusal :=
  .next (raiseFatal s.pc 0xCB 0xDD 0xED s)

/-- CB DD CB (R134). -/
def execPfxFatalCbDdCb (s : State) : Host.Outcome State Fault Refusal :=
  .next (raiseFatal s.pc 0xCB 0xDD 0xCB s)

/-- CB FD DD (R134). -/
def execPfxFatalCbFdDd (s : State) : Host.Outcome State Fault Refusal :=
  .next (raiseFatal s.pc 0xCB 0xFD 0xDD s)

/-- CB FD FD (R134). -/
def execPfxFatalCbFdFd (s : State) : Host.Outcome State Fault Refusal :=
  .next (raiseFatal s.pc 0xCB 0xFD 0xFD s)

/-- CB FD ED (R134). -/
def execPfxFatalCbFdEd (s : State) : Host.Outcome State Fault Refusal :=
  .next (raiseFatal s.pc 0xCB 0xFD 0xED s)

/-- CB FD CB (R134). -/
def execPfxFatalCbFdCb (s : State) : Host.Outcome State Fault Refusal :=
  .next (raiseFatal s.pc 0xCB 0xFD 0xCB s)

/-- CB ED DD (R134). -/
def execPfxFatalCbEdDd (s : State) : Host.Outcome State Fault Refusal :=
  .next (raiseFatal s.pc 0xCB 0xED 0xDD s)

/-- CB ED FD (R134). -/
def execPfxFatalCbEdFd (s : State) : Host.Outcome State Fault Refusal :=
  .next (raiseFatal s.pc 0xCB 0xED 0xFD s)

/-- CB ED ED (R134). -/
def execPfxFatalCbEdEd (s : State) : Host.Outcome State Fault Refusal :=
  .next (raiseFatal s.pc 0xCB 0xED 0xED s)

/-- CB ED CB (R134). -/
def execPfxFatalCbEdCb (s : State) : Host.Outcome State Fault Refusal :=
  .next (raiseFatal s.pc 0xCB 0xED 0xCB s)

/-- CB CB DD (R134). -/
def execPfxFatalCbCbDd (s : State) : Host.Outcome State Fault Refusal :=
  .next (raiseFatal s.pc 0xCB 0xCB 0xDD s)

/-- CB CB FD (R134). -/
def execPfxFatalCbCbFd (s : State) : Host.Outcome State Fault Refusal :=
  .next (raiseFatal s.pc 0xCB 0xCB 0xFD s)

/-- CB CB ED (R134). -/
def execPfxFatalCbCbEd (s : State) : Host.Outcome State Fault Refusal :=
  .next (raiseFatal s.pc 0xCB 0xCB 0xED s)

/-- CB CB CB (R134). -/
def execPfxFatalCbCbCb (s : State) : Host.Outcome State Fault Refusal :=
  .next (raiseFatal s.pc 0xCB 0xCB 0xCB s)

end Sys2Proof.Machine
end

