-- ==== Sys2Proof/Machine/Interrupts.lean ====
section
/-! DEFINITION. Interrupt state (`44_reference_table.md` section 2, R202 to R209). There is one
privilege mode: every instruction may run at any time (`60_exceptions.md` R284). -/

namespace Sys2Proof.Machine

/-- DI (R202). -/
def execDi (s : State) : Host.Outcome State Fault Refusal :=
  .next { s with iff1 := false, iff2 := false }

/-- EI (R203): no enable delay (`60_exceptions.md` R282). -/
def execEi (s : State) : Host.Outcome State Fault Refusal :=
  .next { s with iff1 := true, iff2 := true }

/-- IM 0 (R204). -/
def execIm0 (s : State) : Host.Outcome State Fault Refusal :=
  .next { s with im := .mode0 }

/-- IM 1 (R205). -/
def execIm1 (s : State) : Host.Outcome State Fault Refusal :=
  .next { s with im := .mode1 }

/-- IM 2 (R206). -/
def execIm2 (s : State) : Host.Outcome State Fault Refusal :=
  .next { s with im := .mode2 }

/-- LD I,A (R207): R unchanged. -/
def execLdIA (s : State) : Host.Outcome State Fault Refusal :=
  .next (write8 .i (read8 .a s) s)

/-- LD A,I (R208): PV takes IFF2. -/
def execLdAI (s : State) : Host.Outcome State Fault Refusal :=
  .next (write8 .f (ldAIFlags (read8 .i s) (read8 .f s) s.iff2) (write8 .a (read8 .i s) s))

/-- RETN (R209): `PC <- Pop16(); IFF1 <- IFF2`. -/
def execRetn (s : State) : Host.Outcome State Fault Refusal :=
  .next (returnFromNmi s)

end Sys2Proof.Machine
end

