-- ==== Sys2Proof/Machine/Operands.lean ====
section
/-! DEFINITION. Operand forms (`30_encoding.md` R87, R92; `44_reference_table.md` R201). An 8-bit
immediate is the byte itself and a 16-bit immediate or address the word the decoder assembled. -/

namespace Sys2Proof.Machine

/-- The target of a relative transfer: the post-fetch PC plus the signed displacement
(`41_step_sequencer.md` R161). -/
def relativeTarget (d : Byte) (s : State) : Word := s.pc + sext16 d

/-- The address of `(IX+d)` (R218). -/
def ixAddress (d : Byte) (s : State) : Word := s.ix + sext16 d

/-- The transfer `PC <- target`. -/
def jumpTo (target : Word) (s : State) : State := { s with pc := target }

/-- A conditional transfer: PC is left at the post-fetch PC when the condition fails (R174). -/
def jumpIf (cond : Bool) (target : Word) (s : State) : State :=
  { s with pc := if cond then target else s.pc }

/-- A call: push the post-fetch PC, then go to the target (R174), for a writability map. -/
def callToWith (writable : Word → Bool) (target : Word) (s : State) : State :=
  jumpTo target (push16With writable s.pc s)

end Sys2Proof.Machine
end

