-- ==== Sys2Proof/Machine/Loads.lean ====
section
/-! DEFINITION. 8-bit loads (`44_reference_table.md` section 3, R210 to R218). No flag is written. -/

namespace Sys2Proof.Machine

/-- LD A,n (R210): `A <- n8`. -/
def execLdAN (n : Byte) (s : State) : Host.Outcome State Fault Refusal :=
  .next (write8 .a n s)

/-- LD B,n (R211): `B <- n8`. -/
def execLdBN (n : Byte) (s : State) : Host.Outcome State Fault Refusal :=
  .next (write8 .b n s)

/-- LD A,B (R212): `A <- B`. -/
def execLdAB (s : State) : Host.Outcome State Fault Refusal :=
  .next (write8 .a (read8 .b s) s)

/-- LD B,A (R213): `B <- A`. -/
def execLdBA (s : State) : Host.Outcome State Fault Refusal :=
  .next (write8 .b (read8 .a s) s)

/-- LD (HL),A (R214) for a writability map: `MemWrite(HL, 1, A)`. -/
def execLdMemHlAWith (writable : Word → Bool) (s : State) :
    Host.Outcome State Fault Refusal :=
  .next (storeByte writable s.hl (read8 .a s) s)

/-- LD (HL),A (R214) with the default map. -/
def execLdMemHlA (s : State) : Host.Outcome State Fault Refusal :=
  execLdMemHlAWith Config.writable s

/-- LD A,(HL) (R215): `A <- MemRead(HL, 1)`. -/
def execLdAMemHl (s : State) : Host.Outcome State Fault Refusal :=
  .next (write8 .a (readByte s.hl s) s)

/-- LD (nn),A (R216) for a writability map: `MemWrite(nn, 1, A)`. -/
def execLdMemNnAWith (writable : Word → Bool) (nn : Word) (s : State) :
    Host.Outcome State Fault Refusal :=
  .next (storeByte writable nn (read8 .a s) s)

/-- LD (nn),A (R216) with the default map. -/
def execLdMemNnA (nn : Word) (s : State) : Host.Outcome State Fault Refusal :=
  execLdMemNnAWith Config.writable nn s

/-- LD A,(nn) (R217): `A <- MemRead(nn, 1)`. -/
def execLdAMemNn (nn : Word) (s : State) : Host.Outcome State Fault Refusal :=
  .next (write8 .a (readByte nn s) s)

/-- LD A,(IX+d) (R218): `A <- MemRead(IX +16 e, 1)`. -/
def execLdAIxd (d : Byte) (s : State) : Host.Outcome State Fault Refusal :=
  .next (write8 .a (readByte (ixAddress d s) s) s)

end Sys2Proof.Machine
end

