-- ==== Sys2Proof/Machine/Loads16.lean ====
section
/-! DEFINITION. 16-bit loads (`44_reference_table.md` section 4, R219 to R227). No flag is written. -/

namespace Sys2Proof.Machine

/-- LD BC,nn (R219). -/
def execLdBcNn (nn : Word) (s : State) : Host.Outcome State Fault Refusal :=
  .next (writeReg .bc nn s)

/-- LD DE,nn (R220). -/
def execLdDeNn (nn : Word) (s : State) : Host.Outcome State Fault Refusal :=
  .next (writeReg .de nn s)

/-- LD HL,nn (R221). -/
def execLdHlNn (nn : Word) (s : State) : Host.Outcome State Fault Refusal :=
  .next (writeReg .hl nn s)

/-- LD SP,nn (R222). -/
def execLdSpNn (nn : Word) (s : State) : Host.Outcome State Fault Refusal :=
  .next (writeReg .sp nn s)

/-- LD IX,nn (R223). -/
def execLdIxNn (nn : Word) (s : State) : Host.Outcome State Fault Refusal :=
  .next (writeReg .ix nn s)

/-- LD IY,nn (R224). -/
def execLdIyNn (nn : Word) (s : State) : Host.Outcome State Fault Refusal :=
  .next (writeReg .iy nn s)

/-- LD (nn),HL (R225) for a writability map: `MemWrite(nn, 2, HL)`. -/
def execLdMemNnHlWith (writable : Word → Bool) (nn : Word) (s : State) :
    Host.Outcome State Fault Refusal :=
  .next (writeWordWith writable nn s.hl s)

/-- LD (nn),HL (R225) with the default map. -/
def execLdMemNnHl (nn : Word) (s : State) : Host.Outcome State Fault Refusal :=
  execLdMemNnHlWith Config.writable nn s

/-- LD HL,(nn) (R226): `HL <- MemRead(nn, 2)`. -/
def execLdHlMemNn (nn : Word) (s : State) : Host.Outcome State Fault Refusal :=
  .next (writeReg .hl (readWord nn s) s)

/-- LD SP,HL (R227): `SP <- HL`. -/
def execLdSpHl (s : State) : Host.Outcome State Fault Refusal :=
  .next (writeReg .sp s.hl s)

end Sys2Proof.Machine
end

