-- ==== Sys2Proof/Machine/Named.lean ====
section
/-! DEFINITION. NOP, HALT and the exchanges (`42_named_instructions.md` R170 to R173,
`44_reference_table.md` R228). -/

namespace Sys2Proof.Machine

/-- NOP (R170): the identity. -/
def execNop (s : State) : Host.Outcome State Fault Refusal :=
  .next (defaultNoOp s)

/-- HALT (R171): `HALT <- 1`; PC stays at the post-fetch PC. -/
def execHalt (s : State) : Host.Outcome State Fault Refusal :=
  .next { s with halt := true }

/-- EXX (R172): BC, DE and HL change places with their shadows. -/
def execExx (s : State) : Host.Outcome State Fault Refusal :=
  .next { s with bc := s.bcx, bcx := s.bc, de := s.dex, dex := s.de, hl := s.hlx, hlx := s.hl }

/-- EX AF,AF' (R173). -/
def execExAfAf (s : State) : Host.Outcome State Fault Refusal :=
  .next { s with af := s.afx, afx := s.af }

/-- EX DE,HL (R228). -/
def execExDeHl (s : State) : Host.Outcome State Fault Refusal :=
  .next { s with de := s.hl, hl := s.de }

end Sys2Proof.Machine
end

