-- ==== Sys2Proof/Machine/Patterns.lean ====
section
/-! DEFINITION. The words of the 21 prefix patterns that the table does not map
(`40_decoder.md` R113 to R133): each runs the default no-operation (`42_named_instructions.md`
R170, `30_encoding.md` R89). PC has been advanced by `len` before this meaning runs (R146), and the
cost is `DEFAULT_CYCLES` (`41_step_sequencer.md` R143). -/

namespace Sys2Proof.Machine

/-- PFX.none (R113): an unmapped word of the pattern. -/
def execPfxNone (_o : Byte) (s : State) : Host.Outcome State Fault Refusal :=
  .next (defaultNoOp s)

/-- PFX.DD (R114): an unmapped word of the pattern. -/
def execPfxDd (_o : Byte) (s : State) : Host.Outcome State Fault Refusal :=
  .next (defaultNoOp s)

/-- PFX.FD (R115): an unmapped word of the pattern. -/
def execPfxFd (_o : Byte) (s : State) : Host.Outcome State Fault Refusal :=
  .next (defaultNoOp s)

/-- PFX.ED (R116): an unmapped word of the pattern. -/
def execPfxEd (_o : Byte) (s : State) : Host.Outcome State Fault Refusal :=
  .next (defaultNoOp s)

/-- PFX.CB (R117): an unmapped word of the pattern. -/
def execPfxCb (_o : Byte) (s : State) : Host.Outcome State Fault Refusal :=
  .next (defaultNoOp s)

/-- PFX.DD_DD (R118): an unmapped word of the pattern. -/
def execPfxDdDd (_o : Byte) (s : State) : Host.Outcome State Fault Refusal :=
  .next (defaultNoOp s)

/-- PFX.DD_FD (R119): an unmapped word of the pattern. -/
def execPfxDdFd (_o : Byte) (s : State) : Host.Outcome State Fault Refusal :=
  .next (defaultNoOp s)

/-- PFX.DD_CB (R120): an unmapped word of the pattern. -/
def execPfxDdCb (_o : Byte) (s : State) : Host.Outcome State Fault Refusal :=
  .next (defaultNoOp s)

/-- PFX.FD_DD (R121): an unmapped word of the pattern. -/
def execPfxFdDd (_o : Byte) (s : State) : Host.Outcome State Fault Refusal :=
  .next (defaultNoOp s)

/-- PFX.FD_FD (R122): an unmapped word of the pattern. -/
def execPfxFdFd (_o : Byte) (s : State) : Host.Outcome State Fault Refusal :=
  .next (defaultNoOp s)

/-- PFX.FD_CB (R123): an unmapped word of the pattern. -/
def execPfxFdCb (_o : Byte) (s : State) : Host.Outcome State Fault Refusal :=
  .next (defaultNoOp s)

/-- PFX.ED_DD (R124): an unmapped word of the pattern. -/
def execPfxEdDd (_o : Byte) (s : State) : Host.Outcome State Fault Refusal :=
  .next (defaultNoOp s)

/-- PFX.ED_FD (R125): an unmapped word of the pattern. -/
def execPfxEdFd (_o : Byte) (s : State) : Host.Outcome State Fault Refusal :=
  .next (defaultNoOp s)

/-- PFX.ED_CB (R126): an unmapped word of the pattern. -/
def execPfxEdCb (_o : Byte) (s : State) : Host.Outcome State Fault Refusal :=
  .next (defaultNoOp s)

/-- PFX.CB_DD (R127): an unmapped word of the pattern. -/
def execPfxCbDd (_o : Byte) (s : State) : Host.Outcome State Fault Refusal :=
  .next (defaultNoOp s)

/-- PFX.CB_FD (R128): an unmapped word of the pattern. -/
def execPfxCbFd (_o : Byte) (s : State) : Host.Outcome State Fault Refusal :=
  .next (defaultNoOp s)

/-- PFX.CB_CB (R129): an unmapped word of the pattern. -/
def execPfxCbCb (_o : Byte) (s : State) : Host.Outcome State Fault Refusal :=
  .next (defaultNoOp s)

/-- PFX.DD_ED (R130): an unmapped word of the pattern. -/
def execPfxDdEd (_o : Byte) (s : State) : Host.Outcome State Fault Refusal :=
  .next (defaultNoOp s)

/-- PFX.FD_ED (R131): an unmapped word of the pattern. -/
def execPfxFdEd (_o : Byte) (s : State) : Host.Outcome State Fault Refusal :=
  .next (defaultNoOp s)

/-- PFX.ED_ED (R132): an unmapped word of the pattern. -/
def execPfxEdEd (_o : Byte) (s : State) : Host.Outcome State Fault Refusal :=
  .next (defaultNoOp s)

/-- PFX.CB_ED (R133): an unmapped word of the pattern. -/
def execPfxCbEd (_o : Byte) (s : State) : Host.Outcome State Fault Refusal :=
  .next (defaultNoOp s)

end Sys2Proof.Machine
end

