-- ==== Sys2Proof/Machine/Stack.lean ====
section
/-! DEFINITION. Push and pop (`44_reference_table.md` section 6, R242 to R247). -/

namespace Sys2Proof.Machine

/-- PUSH BC (R242) for a writability map. -/
def execPushBcWith (writable : Word → Bool) (s : State) :
    Host.Outcome State Fault Refusal :=
  .next (push16With writable s.bc s)

/-- PUSH BC (R242) with the default map. -/
def execPushBc (s : State) : Host.Outcome State Fault Refusal :=
  execPushBcWith Config.writable s

/-- PUSH HL (R243) for a writability map. -/
def execPushHlWith (writable : Word → Bool) (s : State) :
    Host.Outcome State Fault Refusal :=
  .next (push16With writable s.hl s)

/-- PUSH HL (R243) with the default map. -/
def execPushHl (s : State) : Host.Outcome State Fault Refusal :=
  execPushHlWith Config.writable s

/-- PUSH AF (R244) for a writability map: all eight bits of F are stored. -/
def execPushAfWith (writable : Word → Bool) (s : State) :
    Host.Outcome State Fault Refusal :=
  .next (push16With writable s.af s)

/-- PUSH AF (R244) with the default map. -/
def execPushAf (s : State) : Host.Outcome State Fault Refusal :=
  execPushAfWith Config.writable s

/-- POP BC (R245). -/
def execPopBc (s : State) : Host.Outcome State Fault Refusal :=
  .next (writeReg .bc (pop16 s).1 (pop16 s).2)

/-- POP HL (R246). -/
def execPopHl (s : State) : Host.Outcome State Fault Refusal :=
  .next (writeReg .hl (pop16 s).1 (pop16 s).2)

/-- POP AF (R247): all eight bits of F take the popped low byte. -/
def execPopAf (s : State) : Host.Outcome State Fault Refusal :=
  .next (writeReg .af (pop16 s).1 (pop16 s).2)

end Sys2Proof.Machine
end

