-- ==== Sys2Proof/Machine/Synthetic.lean ====
section
/-! DEFINITION. The synthetic descriptor pair of the cost test (`42_named_instructions.md` R175). -/

namespace Sys2Proof.Machine

/-- SYN.JCOND (R175): `if Z == 0 then PC <- PC +16 sext_16(ops[0])`. -/
def execSynJcond (d : Byte) (s : State) : Host.Outcome State Fault Refusal :=
  .next (jumpIf (!flag .z s) (relativeTarget d s) s)

/-- SYN.PLAIN (R175): the identity; its operand byte is passed over. -/
def execSynPlain (_d : Byte) (s : State) : Host.Outcome State Fault Refusal :=
  .next (defaultNoOp s)

end Sys2Proof.Machine
end

