-- ==== Sys2Proof/Machine/Transfer.lean ====
section
/-! DEFINITION. Control transfer (`44_reference_table.md` section 5, R230 to R240). PC on entry is the
post-fetch PC (`41_step_sequencer.md` R150). No flag is written. -/

namespace Sys2Proof.Machine

/-- JP nn (R230). -/
def execJpNn (nn : Word) (s : State) : Host.Outcome State Fault Refusal :=
  .next (jumpTo nn s)

/-- JP NZ,nn (R231). -/
def execJpNzNn (nn : Word) (s : State) : Host.Outcome State Fault Refusal :=
  .next (jumpIf (!flag .z s) nn s)

/-- JP Z,nn (R232). -/
def execJpZNn (nn : Word) (s : State) : Host.Outcome State Fault Refusal :=
  .next (jumpIf (flag .z s) nn s)

/-- JP (HL) (R233): `PC <- HL`, no memory access. -/
def execJpHl (s : State) : Host.Outcome State Fault Refusal :=
  .next (jumpTo s.hl s)

/-- JR e (R234). -/
def execJrE (d : Byte) (s : State) : Host.Outcome State Fault Refusal :=
  .next (jumpTo (relativeTarget d s) s)

/-- JR NZ,e (R235). -/
def execJrNzE (d : Byte) (s : State) : Host.Outcome State Fault Refusal :=
  .next (jumpIf (!flag .z s) (relativeTarget d s) s)

/-- JR Z,e (R236). -/
def execJrZE (d : Byte) (s : State) : Host.Outcome State Fault Refusal :=
  .next (jumpIf (flag .z s) (relativeTarget d s) s)

/-- DJNZ e (R237): `B <- B -8 1`, and the transfer if the new B is not 0. -/
def execDjnzE (d : Byte) (s : State) : Host.Outcome State Fault Refusal :=
  let r := read8 .b s - 1
  .next (jumpIf (r != 0) (relativeTarget d s) (write8 .b r s))

/-- CALL nn (R238) for a writability map: `Push16(PC); PC <- nn`. -/
def execCallNnWith (writable : Word → Bool) (nn : Word) (s : State) :
    Host.Outcome State Fault Refusal :=
  .next (callToWith writable nn s)

/-- CALL nn (R238) with the default map. -/
def execCallNn (nn : Word) (s : State) : Host.Outcome State Fault Refusal :=
  execCallNnWith Config.writable nn s

/-- RET (R239): `PC <- Pop16()`; IFF1 and IFF2 untouched. -/
def execRet (s : State) : Host.Outcome State Fault Refusal :=
  .next (returnPop s)

/-- RST 0x00 (R240) for a writability map: `Push16(PC); PC <- 0x0000`. -/
def execRst00With (writable : Word → Bool) (s : State) :
    Host.Outcome State Fault Refusal :=
  .next (callToWith writable 0x0000 s)

/-- RST 0x00 (R240) with the default map. -/
def execRst00 (s : State) : Host.Outcome State Fault Refusal :=
  execRst00With Config.writable s

/-- RST 0x08 (R240) for a writability map: `Push16(PC); PC <- 0x0008`. -/
def execRst08With (writable : Word → Bool) (s : State) :
    Host.Outcome State Fault Refusal :=
  .next (callToWith writable 0x0008 s)

/-- RST 0x08 (R240) with the default map. -/
def execRst08 (s : State) : Host.Outcome State Fault Refusal :=
  execRst08With Config.writable s

/-- RST 0x10 (R240) for a writability map: `Push16(PC); PC <- 0x0010`. -/
def execRst10With (writable : Word → Bool) (s : State) :
    Host.Outcome State Fault Refusal :=
  .next (callToWith writable 0x0010 s)

/-- RST 0x10 (R240) with the default map. -/
def execRst10 (s : State) : Host.Outcome State Fault Refusal :=
  execRst10With Config.writable s

/-- RST 0x18 (R240) for a writability map: `Push16(PC); PC <- 0x0018`. -/
def execRst18With (writable : Word → Bool) (s : State) :
    Host.Outcome State Fault Refusal :=
  .next (callToWith writable 0x0018 s)

/-- RST 0x18 (R240) with the default map. -/
def execRst18 (s : State) : Host.Outcome State Fault Refusal :=
  execRst18With Config.writable s

/-- RST 0x20 (R240) for a writability map: `Push16(PC); PC <- 0x0020`. -/
def execRst20With (writable : Word → Bool) (s : State) :
    Host.Outcome State Fault Refusal :=
  .next (callToWith writable 0x0020 s)

/-- RST 0x20 (R240) with the default map. -/
def execRst20 (s : State) : Host.Outcome State Fault Refusal :=
  execRst20With Config.writable s

/-- RST 0x28 (R240) for a writability map: `Push16(PC); PC <- 0x0028`. -/
def execRst28With (writable : Word → Bool) (s : State) :
    Host.Outcome State Fault Refusal :=
  .next (callToWith writable 0x0028 s)

/-- RST 0x28 (R240) with the default map. -/
def execRst28 (s : State) : Host.Outcome State Fault Refusal :=
  execRst28With Config.writable s

/-- RST 0x30 (R240) for a writability map: `Push16(PC); PC <- 0x0030`. -/
def execRst30With (writable : Word → Bool) (s : State) :
    Host.Outcome State Fault Refusal :=
  .next (callToWith writable 0x0030 s)

/-- RST 0x30 (R240) with the default map. -/
def execRst30 (s : State) : Host.Outcome State Fault Refusal :=
  execRst30With Config.writable s

/-- RST 0x38 (R240) for a writability map: `Push16(PC); PC <- 0x0038`. -/
def execRst38With (writable : Word → Bool) (s : State) :
    Host.Outcome State Fault Refusal :=
  .next (callToWith writable 0x0038 s)

/-- RST 0x38 (R240) with the default map. -/
def execRst38 (s : State) : Host.Outcome State Fault Refusal :=
  execRst38With Config.writable s

end Sys2Proof.Machine
end

