-- ==== Sys2Proof/Machine/Dispatch.lean ====
section
/-! DEFINITION. One arm per instruction: its transition function (`41_step_sequencer.md` R142, R150).
The state it receives has PC at the post-fetch PC (log entry 16); the cost is chosen by the
sequencer (R152). -/

namespace Sys2Proof.Machine

def exec (i : Instr) (s : State) : Host.Outcome State Fault Refusal :=
  match i with
  | .pfxNone o => Sys2Proof.Machine.execPfxNone o s
  | .pfxDd o => Sys2Proof.Machine.execPfxDd o s
  | .pfxFd o => Sys2Proof.Machine.execPfxFd o s
  | .pfxEd o => Sys2Proof.Machine.execPfxEd o s
  | .pfxCb o => Sys2Proof.Machine.execPfxCb o s
  | .pfxDdDd o => Sys2Proof.Machine.execPfxDdDd o s
  | .pfxDdFd o => Sys2Proof.Machine.execPfxDdFd o s
  | .pfxDdCb o => Sys2Proof.Machine.execPfxDdCb o s
  | .pfxFdDd o => Sys2Proof.Machine.execPfxFdDd o s
  | .pfxFdFd o => Sys2Proof.Machine.execPfxFdFd o s
  | .pfxFdCb o => Sys2Proof.Machine.execPfxFdCb o s
  | .pfxEdDd o => Sys2Proof.Machine.execPfxEdDd o s
  | .pfxEdFd o => Sys2Proof.Machine.execPfxEdFd o s
  | .pfxEdCb o => Sys2Proof.Machine.execPfxEdCb o s
  | .pfxCbDd o => Sys2Proof.Machine.execPfxCbDd o s
  | .pfxCbFd o => Sys2Proof.Machine.execPfxCbFd o s
  | .pfxCbCb o => Sys2Proof.Machine.execPfxCbCb o s
  | .pfxDdEd o => Sys2Proof.Machine.execPfxDdEd o s
  | .pfxFdEd o => Sys2Proof.Machine.execPfxFdEd o s
  | .pfxEdEd o => Sys2Proof.Machine.execPfxEdEd o s
  | .pfxCbEd o => Sys2Proof.Machine.execPfxCbEd o s
  | .pfxFatalDdDdDd => Sys2Proof.Machine.execPfxFatalDdDdDd s
  | .pfxFatalDdDdFd => Sys2Proof.Machine.execPfxFatalDdDdFd s
  | .pfxFatalDdDdEd => Sys2Proof.Machine.execPfxFatalDdDdEd s
  | .pfxFatalDdDdCb => Sys2Proof.Machine.execPfxFatalDdDdCb s
  | .pfxFatalDdFdDd => Sys2Proof.Machine.execPfxFatalDdFdDd s
  | .pfxFatalDdFdFd => Sys2Proof.Machine.execPfxFatalDdFdFd s
  | .pfxFatalDdFdEd => Sys2Proof.Machine.execPfxFatalDdFdEd s
  | .pfxFatalDdFdCb => Sys2Proof.Machine.execPfxFatalDdFdCb s
  | .pfxFatalDdEdDd => Sys2Proof.Machine.execPfxFatalDdEdDd s
  | .pfxFatalDdEdFd => Sys2Proof.Machine.execPfxFatalDdEdFd s
  | .pfxFatalDdEdEd => Sys2Proof.Machine.execPfxFatalDdEdEd s
  | .pfxFatalDdEdCb => Sys2Proof.Machine.execPfxFatalDdEdCb s
  | .pfxFatalDdCbDd => Sys2Proof.Machine.execPfxFatalDdCbDd s
  | .pfxFatalDdCbFd => Sys2Proof.Machine.execPfxFatalDdCbFd s
  | .pfxFatalDdCbEd => Sys2Proof.Machine.execPfxFatalDdCbEd s
  | .pfxFatalDdCbCb => Sys2Proof.Machine.execPfxFatalDdCbCb s
  | .pfxFatalFdDdDd => Sys2Proof.Machine.execPfxFatalFdDdDd s
  | .pfxFatalFdDdFd => Sys2Proof.Machine.execPfxFatalFdDdFd s
  | .pfxFatalFdDdEd => Sys2Proof.Machine.execPfxFatalFdDdEd s
  | .pfxFatalFdDdCb => Sys2Proof.Machine.execPfxFatalFdDdCb s
  | .pfxFatalFdFdDd => Sys2Proof.Machine.execPfxFatalFdFdDd s
  | .pfxFatalFdFdFd => Sys2Proof.Machine.execPfxFatalFdFdFd s
  | .pfxFatalFdFdEd => Sys2Proof.Machine.execPfxFatalFdFdEd s
  | .pfxFatalFdFdCb => Sys2Proof.Machine.execPfxFatalFdFdCb s
  | .pfxFatalFdEdDd => Sys2Proof.Machine.execPfxFatalFdEdDd s
  | .pfxFatalFdEdFd => Sys2Proof.Machine.execPfxFatalFdEdFd s
  | .pfxFatalFdEdEd => Sys2Proof.Machine.execPfxFatalFdEdEd s
  | .pfxFatalFdEdCb => Sys2Proof.Machine.execPfxFatalFdEdCb s
  | .pfxFatalFdCbDd => Sys2Proof.Machine.execPfxFatalFdCbDd s
  | .pfxFatalFdCbFd => Sys2Proof.Machine.execPfxFatalFdCbFd s
  | .pfxFatalFdCbEd => Sys2Proof.Machine.execPfxFatalFdCbEd s
  | .pfxFatalFdCbCb => Sys2Proof.Machine.execPfxFatalFdCbCb s
  | .pfxFatalEdDdDd => Sys2Proof.Machine.execPfxFatalEdDdDd s
  | .pfxFatalEdDdFd => Sys2Proof.Machine.execPfxFatalEdDdFd s
  | .pfxFatalEdDdEd => Sys2Proof.Machine.execPfxFatalEdDdEd s
  | .pfxFatalEdDdCb => Sys2Proof.Machine.execPfxFatalEdDdCb s
  | .pfxFatalEdFdDd => Sys2Proof.Machine.execPfxFatalEdFdDd s
  | .pfxFatalEdFdFd => Sys2Proof.Machine.execPfxFatalEdFdFd s
  | .pfxFatalEdFdEd => Sys2Proof.Machine.execPfxFatalEdFdEd s
  | .pfxFatalEdFdCb => Sys2Proof.Machine.execPfxFatalEdFdCb s
  | .pfxFatalEdEdDd => Sys2Proof.Machine.execPfxFatalEdEdDd s
  | .pfxFatalEdEdFd => Sys2Proof.Machine.execPfxFatalEdEdFd s
  | .pfxFatalEdEdEd => Sys2Proof.Machine.execPfxFatalEdEdEd s
  | .pfxFatalEdEdCb => Sys2Proof.Machine.execPfxFatalEdEdCb s
  | .pfxFatalEdCbDd => Sys2Proof.Machine.execPfxFatalEdCbDd s
  | .pfxFatalEdCbFd => Sys2Proof.Machine.execPfxFatalEdCbFd s
  | .pfxFatalEdCbEd => Sys2Proof.Machine.execPfxFatalEdCbEd s
  | .pfxFatalEdCbCb => Sys2Proof.Machine.execPfxFatalEdCbCb s
  | .pfxFatalCbDdDd => Sys2Proof.Machine.execPfxFatalCbDdDd s
  | .pfxFatalCbDdFd => Sys2Proof.Machine.execPfxFatalCbDdFd s
  | .pfxFatalCbDdEd => Sys2Proof.Machine.execPfxFatalCbDdEd s
  | .pfxFatalCbDdCb => Sys2Proof.Machine.execPfxFatalCbDdCb s
  | .pfxFatalCbFdDd => Sys2Proof.Machine.execPfxFatalCbFdDd s
  | .pfxFatalCbFdFd => Sys2Proof.Machine.execPfxFatalCbFdFd s
  | .pfxFatalCbFdEd => Sys2Proof.Machine.execPfxFatalCbFdEd s
  | .pfxFatalCbFdCb => Sys2Proof.Machine.execPfxFatalCbFdCb s
  | .pfxFatalCbEdDd => Sys2Proof.Machine.execPfxFatalCbEdDd s
  | .pfxFatalCbEdFd => Sys2Proof.Machine.execPfxFatalCbEdFd s
  | .pfxFatalCbEdEd => Sys2Proof.Machine.execPfxFatalCbEdEd s
  | .pfxFatalCbEdCb => Sys2Proof.Machine.execPfxFatalCbEdCb s
  | .pfxFatalCbCbDd => Sys2Proof.Machine.execPfxFatalCbCbDd s
  | .pfxFatalCbCbFd => Sys2Proof.Machine.execPfxFatalCbCbFd s
  | .pfxFatalCbCbEd => Sys2Proof.Machine.execPfxFatalCbCbEd s
  | .pfxFatalCbCbCb => Sys2Proof.Machine.execPfxFatalCbCbCb s
  | .nop => Sys2Proof.Machine.execNop s
  | .ldBcNn nn => Sys2Proof.Machine.execLdBcNn nn s
  | .incBc => Sys2Proof.Machine.execIncBc s
  | .decB => Sys2Proof.Machine.execDecB s
  | .ldBN n => Sys2Proof.Machine.execLdBN n s
  | .exAfAf => Sys2Proof.Machine.execExAfAf s
  | .decBc => Sys2Proof.Machine.execDecBc s
  | .djnzE d => Sys2Proof.Machine.execDjnzE d s
  | .ldDeNn nn => Sys2Proof.Machine.execLdDeNn nn s
  | .jrE d => Sys2Proof.Machine.execJrE d s
  | .jrNzE d => Sys2Proof.Machine.execJrNzE d s
  | .ldHlNn nn => Sys2Proof.Machine.execLdHlNn nn s
  | .ldMemNnHl nn => Sys2Proof.Machine.execLdMemNnHl nn s
  | .incHl => Sys2Proof.Machine.execIncHl s
  | .jrZE d => Sys2Proof.Machine.execJrZE d s
  | .ldHlMemNn nn => Sys2Proof.Machine.execLdHlMemNn nn s
  | .decHl => Sys2Proof.Machine.execDecHl s
  | .ldSpNn nn => Sys2Proof.Machine.execLdSpNn nn s
  | .ldMemNnA nn => Sys2Proof.Machine.execLdMemNnA nn s
  | .ldAMemNn nn => Sys2Proof.Machine.execLdAMemNn nn s
  | .incA => Sys2Proof.Machine.execIncA s
  | .ldAN n => Sys2Proof.Machine.execLdAN n s
  | .ldBA => Sys2Proof.Machine.execLdBA s
  | .halt => Sys2Proof.Machine.execHalt s
  | .ldMemHlA => Sys2Proof.Machine.execLdMemHlA s
  | .ldAB => Sys2Proof.Machine.execLdAB s
  | .ldAMemHl => Sys2Proof.Machine.execLdAMemHl s
  | .addAB => Sys2Proof.Machine.execAddAB s
  | .xorA => Sys2Proof.Machine.execXorA s
  | .popBc => Sys2Proof.Machine.execPopBc s
  | .jpNzNn nn => Sys2Proof.Machine.execJpNzNn nn s
  | .jpNn nn => Sys2Proof.Machine.execJpNn nn s
  | .pushBc => Sys2Proof.Machine.execPushBc s
  | .rst00 => Sys2Proof.Machine.execRst00 s
  | .ret => Sys2Proof.Machine.execRet s
  | .jpZNn nn => Sys2Proof.Machine.execJpZNn nn s
  | .callNn nn => Sys2Proof.Machine.execCallNn nn s
  | .rst08 => Sys2Proof.Machine.execRst08 s
  | .rst10 => Sys2Proof.Machine.execRst10 s
  | .exx => Sys2Proof.Machine.execExx s
  | .rst18 => Sys2Proof.Machine.execRst18 s
  | .popHl => Sys2Proof.Machine.execPopHl s
  | .pushHl => Sys2Proof.Machine.execPushHl s
  | .rst20 => Sys2Proof.Machine.execRst20 s
  | .jpHl => Sys2Proof.Machine.execJpHl s
  | .exDeHl => Sys2Proof.Machine.execExDeHl s
  | .rst28 => Sys2Proof.Machine.execRst28 s
  | .popAf => Sys2Proof.Machine.execPopAf s
  | .di => Sys2Proof.Machine.execDi s
  | .pushAf => Sys2Proof.Machine.execPushAf s
  | .rst30 => Sys2Proof.Machine.execRst30 s
  | .ldSpHl => Sys2Proof.Machine.execLdSpHl s
  | .ei => Sys2Proof.Machine.execEi s
  | .rst38 => Sys2Proof.Machine.execRst38 s
  | .ldIxNn nn => Sys2Proof.Machine.execLdIxNn nn s
  | .ldAIxd d => Sys2Proof.Machine.execLdAIxd d s
  | .ldIyNn nn => Sys2Proof.Machine.execLdIyNn nn s
  | .retn => Sys2Proof.Machine.execRetn s
  | .im0 => Sys2Proof.Machine.execIm0 s
  | .ldIA => Sys2Proof.Machine.execLdIA s
  | .im1 => Sys2Proof.Machine.execIm1 s
  | .ldAI => Sys2Proof.Machine.execLdAI s
  | .im2 => Sys2Proof.Machine.execIm2 s
  | .rlcB => Sys2Proof.Machine.execRlcB s
  | .synJcond d => Sys2Proof.Machine.execSynJcond d s
  | .synPlain d => Sys2Proof.Machine.execSynPlain d s

end Sys2Proof.Machine
end

