-- ==== Sys2Proof/Machine/Writable.lean ====
section
/-! DEFINITION. The transition functions for ANY map WRITABLE (`00_scope.md` R8, `20_memory.md` R60):
`exec` runs the storing instructions with the default map, `execWith` with the map it is given. Every
other instruction writes no memory and runs `exec`. -/

namespace Sys2Proof.Machine

/-- `exec` for a writability map: one arm for each instruction that stores (R214, R216, R225, R238,
R240, R242 to R244), `exec` for all the others, each named. -/
def execWith (writable : Word → Bool) (i : Instr) (s : State) : Host.Outcome State Fault Refusal :=
  match i with
  | .ldMemNnHl nn => execLdMemNnHlWith writable nn s
  | .ldMemNnA nn => execLdMemNnAWith writable nn s
  | .ldMemHlA => execLdMemHlAWith writable s
  | .pushBc => execPushBcWith writable s
  | .rst00 => execRst00With writable s
  | .callNn nn => execCallNnWith writable nn s
  | .rst08 => execRst08With writable s
  | .rst10 => execRst10With writable s
  | .rst18 => execRst18With writable s
  | .pushHl => execPushHlWith writable s
  | .rst20 => execRst20With writable s
  | .rst28 => execRst28With writable s
  | .pushAf => execPushAfWith writable s
  | .rst30 => execRst30With writable s
  | .rst38 => execRst38With writable s
  | .pfxNone _ | .pfxDd _ | .pfxFd _ | .pfxEd _ | .pfxCb _ | .pfxDdDd _ | .pfxDdFd _
  | .pfxDdCb _ | .pfxFdDd _ | .pfxFdFd _ | .pfxFdCb _ | .pfxEdDd _ | .pfxEdFd _ | .pfxEdCb _
  | .pfxCbDd _ | .pfxCbFd _ | .pfxCbCb _ | .pfxDdEd _ | .pfxFdEd _ | .pfxEdEd _ | .pfxCbEd _
  | .pfxFatalDdDdDd | .pfxFatalDdDdFd | .pfxFatalDdDdEd | .pfxFatalDdDdCb | .pfxFatalDdFdDd
  | .pfxFatalDdFdFd | .pfxFatalDdFdEd | .pfxFatalDdFdCb | .pfxFatalDdEdDd | .pfxFatalDdEdFd
  | .pfxFatalDdEdEd | .pfxFatalDdEdCb | .pfxFatalDdCbDd | .pfxFatalDdCbFd | .pfxFatalDdCbEd
  | .pfxFatalDdCbCb | .pfxFatalFdDdDd | .pfxFatalFdDdFd | .pfxFatalFdDdEd | .pfxFatalFdDdCb
  | .pfxFatalFdFdDd | .pfxFatalFdFdFd | .pfxFatalFdFdEd | .pfxFatalFdFdCb | .pfxFatalFdEdDd
  | .pfxFatalFdEdFd | .pfxFatalFdEdEd | .pfxFatalFdEdCb | .pfxFatalFdCbDd | .pfxFatalFdCbFd
  | .pfxFatalFdCbEd | .pfxFatalFdCbCb | .pfxFatalEdDdDd | .pfxFatalEdDdFd | .pfxFatalEdDdEd
  | .pfxFatalEdDdCb | .pfxFatalEdFdDd | .pfxFatalEdFdFd | .pfxFatalEdFdEd | .pfxFatalEdFdCb
  | .pfxFatalEdEdDd | .pfxFatalEdEdFd | .pfxFatalEdEdEd | .pfxFatalEdEdCb | .pfxFatalEdCbDd
  | .pfxFatalEdCbFd | .pfxFatalEdCbEd | .pfxFatalEdCbCb | .pfxFatalCbDdDd | .pfxFatalCbDdFd
  | .pfxFatalCbDdEd | .pfxFatalCbDdCb | .pfxFatalCbFdDd | .pfxFatalCbFdFd | .pfxFatalCbFdEd
  | .pfxFatalCbFdCb | .pfxFatalCbEdDd | .pfxFatalCbEdFd | .pfxFatalCbEdEd | .pfxFatalCbEdCb
  | .pfxFatalCbCbDd | .pfxFatalCbCbFd | .pfxFatalCbCbEd | .pfxFatalCbCbCb | .nop | .ldBcNn _
  | .incBc | .decB | .ldBN _ | .exAfAf | .decBc | .djnzE _ | .ldDeNn _ | .jrE _ | .jrNzE _
  | .ldHlNn _ | .incHl | .jrZE _ | .ldHlMemNn _ | .decHl | .ldSpNn _ | .ldAMemNn _ | .incA
  | .ldAN _ | .ldBA | .halt | .ldAB | .ldAMemHl | .addAB | .xorA | .popBc | .jpNzNn _ | .jpNn _
  | .ret | .jpZNn _ | .exx | .popHl | .jpHl | .exDeHl | .popAf | .di | .ldSpHl | .ei | .ldIxNn _
  | .ldAIxd _ | .ldIyNn _ | .retn | .im0 | .ldIA | .im1 | .ldAI | .im2 | .rlcB | .synJcond _
  | .synPlain _ => exec i s

end Sys2Proof.Machine
end

