-- ==== Sys2Proof/Machine/Sequencer.lean ====
section
/-! DEFINITION. The step sequencer (`41_step_sequencer.md` R140 to R160) and interrupt acceptance
(`60_exceptions.md` R269 to R278), for ANY parameters and ANY instruction table: `Params` (WRITABLE,
INT_DEVICE, the vectors and the cycle constants) and TABLE are arguments (`00_scope.md` R8, R17). The
reference table TREF and the machine's own table are two values of the second. -/

namespace Sys2Proof.Machine

/-- An instruction descriptor (R141): operand-byte count, base and alternate cost, transition
function on the operand bytes and the state (R142): a function, which cannot fail, block or raise.
What it may see and write of the state is enforced where it is run (`runExec`). -/
structure Descriptor where
  n : Nat
  base : Nat
  alt : Nat
  exec : List Byte → State → State

/-- An InstructionTable (R140): total on all naturals. -/
abbrev Table := Nat → Descriptor

/-- `DEFAULT_DESC` (R143, R170). -/
def defaultDesc (p : Params) : Descriptor :=
  ⟨0, p.defaultCycles, p.defaultCycles, fun _ s => defaultNoOp s⟩

/-- The state an outcome answers, as a transition function gives it. `execWith` answers a next state
for every instruction (`execWith_next` in `Laws/Exec.lean`), so the state given for a stop is never
taken (log entry 21). -/
def answeredState (s : State) : Host.Outcome State Fault Refusal → State
  | .next t => t
  | .fault _ => s
  | .refused _ => s

/-- The number of cycles a cost in a row stands for. -/
def costCycles (p : Params) : Cost → Nat
  | .cycles count => count
  | .defaultCycles => p.defaultCycles

/-- The descriptor of a row: its transition function is that of the row's instruction, storing
through the map WRITABLE. -/
def rowDescriptor (p : Params) (row : Row) : Descriptor :=
  ⟨row.n, costCycles p row.base, costCycles p row.alt,
    fun ops s => answeredState s (execWith p.writable (row.make ops) s)⟩

/-- The table that holds some rows, with the default for every other selector (R140, R143). -/
def tableOf (p : Params) (rows : List Row) : Table := fun sel =>
  match findRow rows sel with
  | some row => rowDescriptor p row
  | none => defaultDesc p

/-- TREF (`44_reference_table.md` R200). -/
def trefTable (p : Params) : Table := tableOf p trefRows

/-- The machine's own table: TREF with the synthetic pair (log entries 1 and 2). -/
def machineTable (p : Params) : Table := tableOf p machineRows

/-- What one call of `step` gives (R144, R181): the cycle count it returns and the state after it.
No count is returned when `FatalDecode` is raised (R260). -/
structure Returned where
  cycles : Option Nat
  state : State
deriving DecidableEq, Repr

/-- Report a cycle count: it is returned and added to TCYC (R153, R288). -/
def report (cycles : Nat) (s : State) : Host.Outcome Returned Fault Refusal :=
  .next ⟨some cycles, { s with tcyc := s.tcyc + cycles }⟩

/-- Raise `FatalDecode` (R260, R261) on the state as it was when `step` was called. -/
def reportFatal (start : Word) (b0 b1 b2 : Byte) (s : State) : Host.Outcome Returned Fault Refusal :=
  .next ⟨none, raiseFatal start b0 b1 b2 s⟩

/-- Cost selection (R152): `base` if PC is at the post-fetch PC, else `alt`. -/
def costOf (d : Descriptor) (pf : Word) (s : State) : Nat := if s.pc = pf then d.base else d.alt

/-- What a transition function sees of the state (R142): INTP, NMIP, TCYC and FATAL, with the record
of the fatal error, are the same in every state it is given. -/
def hideSequencer (s : State) : State :=
  { s with intp := false, nmip := false, tcyc := 0, fatal := false, fatalInfo := none }

/-- What a transition function leaves of the state (R142): its result, with the sequencer's own items
as they are in `s`. -/
def keepSequencer (s t : State) : State :=
  { t with intp := s.intp, nmip := s.nmip, tcyc := s.tcyc, fatal := s.fatal,
           fatalInfo := s.fatalInfo }

/-- Run a transition function: it neither reads nor writes INTP, NMIP, TCYC and FATAL (R142). -/
def runExec (d : Descriptor) (ops : List Byte) (s : State) : State :=
  keepSequencer s (d.exec ops (hideSequencer s))

/-- Phases 5 and 6 (R150 to R153): run the transition function on a state whose PC is the post-fetch
PC, then report the cost plus `extra`. -/
def runDescriptor (d : Descriptor) (ops : List Byte) (extra : Nat) (s : State) :
    Host.Outcome Returned Fault Refusal :=
  report (costOf d s.pc (runExec d ops s) + extra) (runExec d ops s)

/-- The memory as the decoder and the operand fetch see it from PC: indices modulo 65536 (R100,
R146, R148, `20_memory.md` R76). -/
def pcSource (s : State) : Nat → Byte := fun i => readByte (s.pc + BitVec.ofNat 16 i) s

/-- PC advanced by a number of bytes, modulo 65536 (R146, R148). -/
def advance (k : Nat) (s : State) : State := { s with pc := s.pc + BitVec.ofNat 16 k }

/-- The ordinary step (R146 to R152) from `s`; `s0` is the state when `step` was called, on which a
fatal decode error is raised (R260). -/
def ordinaryStep (table : Table) (s0 s : State) : Host.Outcome Returned Fault Refusal :=
  match decodeSelector (pcSource s) with
  | .fatal b0 b1 b2 => reportFatal s0.pc b0 b1 b2 s0
  | .ok sel len =>
    runDescriptor (table sel) (operandBytes (pcSource s) len (table sel).n) 0
      (advance (len + (table sel).n) s)

/-- Acceptance in mode 0 (R274): one instruction from the device, PC not advanced; decoded first, so
that a fatal error changes nothing. -/
def acceptInt0 (p : Params) (table : Table) (s0 s : State) : Host.Outcome Returned Fault Refusal :=
  match decodeSelector p.intDevice with
  | .fatal b0 b1 b2 => reportFatal 0 b0 b1 b2 s0
  | .ok sel len =>
    runDescriptor (table sel) (operandBytes p.intDevice len (table sel).n) p.im0AckExtra
      (clearForInt s)

/-- `AcceptINT` (R273) by the interrupt mode. -/
def acceptInt (p : Params) (table : Table) (s0 s : State) : Host.Outcome Returned Fault Refusal :=
  match s.im with
  | .mode0 => acceptInt0 p table s0 s
  | .mode1 => report p.im1AckCycles (takeInt1 p s)
  | .mode2 => report p.im2AckCycles (takeInt2 p s)

/-- `step` (R144, R269) for the parameters and a table: NMI, then INT if IFF1, then the halted idle,
then one instruction. No step exists once FATAL is set (R145). -/
def stepWith (p : Params) (table : Table) (s : State) : Host.Outcome Returned Fault Refusal :=
  if s.fatal then .fault .sessionOver
  else if s.nmip then report p.nmiAckCycles (takeNmi p { s with nmip := false })
  else if s.intp && s.iff1 then acceptInt p table s { s with intp := false }
  else if s.halt then report p.haltIdleCycles { s with intp := false }
  else ordinaryStep table s { s with intp := false }

/-- The state an outcome of a step leaves; the count it returned is dropped (log entry 15). -/
def stateOnly : Host.Outcome Returned Fault Refusal → Host.Outcome State Fault Refusal
  | .next r => .next r.state
  | .fault r => .fault r
  | .refused r => .refused r

/-- A state in which the next step fetches: no latch is set and the core is running. -/
def readyToFetch (s : State) : State :=
  { s with nmip := false, intp := false, halt := false, fatal := false, fatalInfo := none }

/-- `count` bytes of a source, written into memory from an address upwards. -/
def placeBytes (src : Nat → Byte) (a : Word) : Nat → State → State
  | 0, s => s
  | k + 1, s =>
    let t := placeBytes src a k s
    { t with mem := memPut t.mem (a + BitVec.ofNat 16 k).toNat (src k) }

/-- The longest instruction of the machine's table, in bytes (R80: DD 21 lo hi, CB CB FE d). -/
def longestInstr : Nat := 4

end Sys2Proof.Machine
end

