-- ==== Sys2Proof/Machine/Step.lean ====
section
/-! DEFINITION. The machine's step: the sequencer with the machine's table, for any parameters and for
those of `Config.params` (log entries 1 to 3), and where an instruction to be run next is placed. -/

namespace Sys2Proof.Machine

/-- One step of the machine's table with the count it returns, for any parameters. -/
def stepReturnedOf (p : Params) (s : State) : Host.Outcome Returned Fault Refusal :=
  stepWith p (machineTable p) s

/-- One step of the machine's table, for any parameters. -/
def stepOf (p : Params) (s : State) : Host.Outcome State Fault Refusal :=
  stateOnly (stepReturnedOf p s)

/-- One step with the count it returns. -/
def stepReturned (s : State) : Host.Outcome Returned Fault Refusal := stepReturnedOf Config.params s

/-- One step. -/
def step (s : State) : Host.Outcome State Fault Refusal := stepOf Config.params s

/-- The state with the instruction of a table word at PC, the bytes after it 0, and the core ready to
fetch it (log entry 10). -/
def State.withFetchWord (s : State) (nbits w : Nat) : State :=
  placeBytes (tableWordByte nbits w) s.pc longestInstr (readyToFetch s)

end Sys2Proof.Machine
end

