-- ==== Sys2Proof/Machine/HostOps.lean ====
section
/-! DEFINITION. The host-facing operations (`43_host_interface.md` R180 to R190). The host acts only
between steps (R189): each operation is a transition of its own, and none is defined once FATAL is
set (R190). -/

namespace Sys2Proof.Machine

/-- `reset()` (R180, R302): every item of the record takes its reset value, memory is not touched. -/
def hostReset (s : State) : State := State.launch s.mem

/-- `setInterruptMode(m)` (R182). -/
def setInterruptMode (m : IMode) (s : State) : State := { s with im := m }

/-- `requestMaskableInterrupt()` (R183): INTP is set; nothing else changes. -/
def requestMaskableInterrupt (s : State) : State := { s with intp := true }

/-- `requestNonMaskableInterrupt()` (R184). -/
def requestNonMaskableInterrupt (s : State) : State := { s with nmip := true }

/-- `isHalted()` (R185); not defined once FATAL is set (R190). -/
def isHalted (s : State) : Host.Outcome Bool Fault Refusal :=
  if s.fatal then .fault .sessionOver else .next s.halt

/-- What the register snapshot shows (R186): every architectural item; the latches INTP, NMIP and
FATAL are not in it. -/
structure Snapshot where
  af : Word
  bc : Word
  de : Word
  hl : Word
  afx : Word
  bcx : Word
  dex : Word
  hlx : Word
  ix : Word
  iy : Word
  ir : Word
  pc : Word
  sp : Word
  iff1 : Bool
  iff2 : Bool
  im : IMode
  halt : Bool
deriving DecidableEq, Repr

/-- The registers as the snapshot shows them (R186). -/
def registersOf (s : State) : Snapshot :=
  ⟨s.af, s.bc, s.de, s.hl, s.afx, s.bcx, s.dex, s.hlx, s.ix, s.iy, s.ir, s.pc, s.sp,
    s.iff1, s.iff2, s.im, s.halt⟩

/-- The register snapshot (R186): a read-only view; not defined once FATAL is set (R190). -/
def snapshot (s : State) : Host.Outcome Snapshot Fault Refusal :=
  if s.fatal then .fault .sessionOver else .next (registersOf s)

/-- What is shown with the error that ends a session (R190, `60_exceptions.md` R261): the recorded
information and the registers before the failed step, which the step left as they were. No host
operation: it is the output of the aborted session. -/
def fatalReport (s : State) : Option (FatalInfo × Snapshot) :=
  s.fatalInfo.map fun info => (info, registersOf s)

/-- The bytes of an image put at ascending addresses from `k` (R188). -/
def putImage : List Byte → Nat → Memory → Memory
  | [], _, m => m
  | b :: rest, k, m => putImage rest (k + 1) (memPut m k b)

/-- The image load (R188): byte `k` of the file goes to address `k`, whatever WRITABLE says there (log
entry 25). -/
def loadImage (image : List Byte) (s : State) : State := { s with mem := putImage image 0 s.mem }

/-- What the host can do between two steps. -/
inductive HostOp where
  /-- `reset()` (R180) -/
  | reset
  /-- `setInterruptMode(m)` (R182) -/
  | setMode (m : IMode)
  /-- `requestMaskableInterrupt()` (R183) -/
  | requestInt
  /-- `requestNonMaskableInterrupt()` (R184) -/
  | requestNmi
  /-- the image load (R188) -/
  | load (image : List Byte)
  /-- a write through the bus between steps (R69, R189; log entry 20) -/
  | poke (a : Word) (v : Byte)
deriving DecidableEq, Repr

/-- A host operation as a transition, for the parameters. DESIGN CHOICE (log entry 25): the image load,
which R188 puts before the first step, is a transition at every step boundary, as every other host
operation is (R189). -/
def hostOp (p : Params) (op : HostOp) (s : State) : Host.Outcome State Fault Refusal :=
  if s.fatal then .fault .sessionOver
  else match op with
    | .reset => .next (hostReset s)
    | .setMode m => .next (setInterruptMode m s)
    | .requestInt => .next (requestMaskableInterrupt s)
    | .requestNmi => .next (requestNonMaskableInterrupt s)
    | .load image => if image.length ≤ 65536 then .next (loadImage image s) else .fault .imageTooLong
    | .poke a v => .next (storeByte p.writable a v s)

/-- What can happen at a step boundary: a step, or a host operation (R189). -/
inductive Event where
  | step
  | host (op : HostOp)
deriving DecidableEq, Repr

/-- An event as a transition, for the parameters and a table. -/
def applyEvent (p : Params) (table : Table) (e : Event) (s : State) :
    Host.Outcome State Fault Refusal :=
  match e with
  | .step => stateOnly (stepWith p table s)
  | .host op => hostOp p op s

/-- The loop of `runFrame` (R187) for any stepper, run for a number of rounds: `t` is the count so far;
a `FatalDecode` of a step is one of the frame. `none`: the loop has not ended within the rounds. With a
table that has a cost of 0 no number of rounds need be enough. -/
def frameLoop (stepper : State → Host.Outcome Returned Fault Refusal) (budget : Nat) :
    Nat → Nat → State → Option (Host.Outcome Returned Fault Refusal)
  | 0, _, _ => none
  | rounds + 1, t, s =>
    if t < budget then
      match stepper s with
      | .next ⟨some c, s'⟩ => frameLoop stepper budget rounds (t + c) s'
      | .next ⟨none, s'⟩ => some (.next ⟨none, s'⟩)
      | .fault r => some (.fault r)
      | .refused r => some (.refused r)
    else some (.next ⟨some t, s⟩)

/-- `runFrame(memory, budget)` (R187) for any stepper, run for a number of rounds. It is a host
operation, so none exists once FATAL is set (R190). -/
def runFrameWithin (stepper : State → Host.Outcome Returned Fault Refusal) (budget rounds : Nat)
    (s : State) : Option (Host.Outcome Returned Fault Refusal) :=
  if s.fatal then some (.fault .sessionOver) else frameLoop stepper budget rounds 0 s

/-- `runFrame(memory, budget)` (R187) of the machine. Every count is at least 1 in the machine's own
table (R259), so `budget` steps and the last comparison suffice: it is never `none` (log entry 18). -/
def runFrame (budget : Nat) (s : State) : Option (Host.Outcome Returned Fault Refusal) :=
  runFrameWithin stepReturned budget (budget + 1) s

end Sys2Proof.Machine
end

