-- ==== Sys2Proof/Safety.lean ====
section
/-! DEFINITION. What claims are stated in: the contract of a descriptor (`41_step_sequencer.md` R142),
the invariant of the machine, and the states that can arise. -/

namespace Sys2Proof.Machine

/-- The contract of a transition function (R142). That it is a function which cannot fail is its type,
and `runExec` keeps INTP, NMIP, TCYC and FATAL from it; the contract says what remains: left to itself
it neither reads nor writes them (nor the model's record of the fatal error), and it writes memory
through the bus only, so that the list stays canonical and an address that is not writable keeps its
byte (`20_memory.md` R60). -/
def Descriptor.Contract (writable : Word → Bool) (d : Descriptor) : Prop :=
  ∀ ops s, d.exec ops s = runExec d ops s ∧
    (s.mem.wf = true → (d.exec ops s).mem.wf = true) ∧
    ∀ a, writable a = false → readByte a (d.exec ops s) = readByte a s

/-- A table all of whose descriptors meet the contract (R140 to R142). -/
def Table.Contract (writable : Word → Bool) (table : Table) : Prop :=
  ∀ sel, (table sel).Contract writable

/-- The mirror invariant in the form R283 gives it: IFF1 and IFF2 differ only as IFF1 = 0,
IFF2 = 1. -/
def State.mirror (s : State) : Bool := !s.iff1 || s.iff2

/-- The invariant of the machine: the memory is in its canonical form, the fatal latch and the record
of the fatal error agree, and the mirror invariant holds. -/
def State.inv (s : State) : Bool :=
  s.mem.wf && (s.fatal == s.fatalInfo.isSome) && s.mirror

/-- A state in which the ordinary step is taken (`60_exceptions.md` R286): no fatal error, no NMI
request, no maskable request that IFF1 lets through, not halted. -/
def State.fetches (s : State) : Bool := !s.fatal && !s.nmip && !(s.intp && s.iff1) && !s.halt

/-- A run of `k` steps and the sum of the counts they return (`70_reset_and_hazards.md` R317); a step
that returns no count ends the run. -/
def runSteps (stepper : State → Host.Outcome Returned Fault Refusal) :
    Nat → State → Host.Outcome Returned Fault Refusal
  | 0, s => .next ⟨some 0, s⟩
  | k + 1, s =>
    match stepper s with
    | .next ⟨some c, s'⟩ =>
      match runSteps stepper k s' with
      | .next ⟨some sum, t⟩ => .next ⟨some (c + sum), t⟩
      | .next ⟨none, t⟩ => .next ⟨none, t⟩
      | .fault r => .fault r
      | .refused r => .refused r
    | .next ⟨none, t⟩ => .next ⟨none, t⟩
    | .fault r => .fault r
    | .refused r => .refused r

/-- An instruction as a rule of the reference table gives it: `i` is encoded as `code` and the operand
bytes `ops`; the decoder reads `code` as selector `sel`; the table's descriptor there has operand
count `n` and costs `base` and `alt`; both the descriptor's transition function and `exec` take `s`,
whose PC is the post-fetch PC, to `t`; and the cost of that step is `base` if PC did not move, else
`alt` (`41_step_sequencer.md` R152). -/
def Follows (table : Table) (sel : Nat) (code : List Byte) (n base alt : Nat) (ops : List Byte)
    (i : Instr) (s t : State) : Prop :=
  encode i = code ++ ops ∧ decodeSelector (listSource code) = .ok sel code.length ∧
    ops.length = n ∧ (table sel).n = n ∧ (table sel).base = base ∧ (table sel).alt = alt ∧
    exec i s = .next t ∧ runExec (table sel) ops s = t ∧
    costOf (table sel) s.pc t = if t.pc = s.pc then base else alt

/-- The memory of `t` is that of `s` with the word `v` pushed (R158) through a writability map: low byte
at SP - 2, high byte at SP - 1, each where the map is true; every other byte as before. -/
def Pushed (writable : Word → Bool) (v : Word) (s t : State) : Prop :=
  ∀ x, readByte x t =
    if x = s.sp - 2 ∧ writable x = true then loByte v
    else if x = s.sp - 1 ∧ writable x = true then hiByte v
    else readByte x s

/-- The four flags `SZYX(r)` gives (R201): S from bit 7, Z from zero, Y and X from bits 5 and 3. -/
def SzyxOf (r : Byte) (t : State) : Prop :=
  flag .s t = r.getLsbD 7 ∧ flag .z t = decide (r = 0) ∧ flag .y t = r.getLsbD 5 ∧
    flag .x t = r.getLsbD 3

/-- The byte is one of the four prefix bytes (R101). -/
abbrev IsPrefixByte (b : Byte) : Prop := b = 0xDD ∨ b = 0xFD ∨ b = 0xED ∨ b = 0xCB

/-- A byte source that starts with the bytes of an instruction. -/
abbrev StartsWith (src : Nat → Byte) (bytes : List Byte) : Prop :=
  ∀ k, k < bytes.length → src k = bytes.getD k 0

/-- A pattern constructor as R89 has it: it completes and changes nothing; when it is well formed, its
bytes decode to a selector that neither table maps, with all of its bytes counted in `len`; and a step
that meets its bytes at PC, for any parameters, advances PC by that many bytes, adds `DEFAULT_CYCLES`
(4 in the machine's own step) and changes nothing else but INTP, which is dropped. -/
def IsDefaultNoOp (i : Instr) : Prop :=
  (∀ s, exec i s = .next s) ∧
    (i.wellFormed = true → ∀ src, StartsWith src (encode i) →
      ∃ sel, decodeSelector src = .ok sel (encode i).length ∧
        ∀ p, trefTable p sel = defaultDesc p ∧ machineTable p sel = defaultDesc p) ∧
    (i.wellFormed = true → ∀ s, s.fetches = true → StartsWith (pcSource s) (encode i) →
      (∀ p, stepOf p s =
        .next { s with pc := s.pc + BitVec.ofNat 16 (encode i).length, intp := false,
                       tcyc := s.tcyc + p.defaultCycles }) ∧
      step s = .next { s with pc := s.pc + BitVec.ofNat 16 (encode i).length, intp := false,
                              tcyc := s.tcyc + 4 })

/-- A three-prefix constructor: its bytes, what the decoder makes of them, and its effect. -/
def IsFatal (i : Instr) (b0 b1 b2 : Byte) : Prop :=
  encode i = [b0, b1, b2] ∧ decodeSelector (listSource [b0, b1, b2]) = .fatal b0 b1 b2 ∧
    ∀ s, exec i s = .next { s with fatal := true, fatalInfo := some ⟨s.pc, b0, b1, b2⟩ }

/-! ### Which instructions may write what -/

/-- The instructions that write F (R208, R247, R252 to R256) or exchange it (R173). -/
def writesF : Instr → Bool
  | .incA | .decB | .addAB | .xorA | .rlcB | .ldAI | .popAf | .exAfAf => true
  | _ => false

/-- The instructions that store (R214, R216, R225, R238, R240, R242 to R244). -/
def writesMemory : Instr → Bool
  | .ldMemHlA | .ldMemNnA _ | .ldMemNnHl _ | .callNn _ | .pushBc | .pushHl | .pushAf | .rst00 | .rst08
  | .rst10 | .rst18 | .rst20 | .rst28 | .rst30 | .rst38 => true
  | _ => false

/-- The instructions that write SP: pushes, pops, calls, returns, loads of SP. -/
def writesSp : Instr → Bool
  | .callNn _ | .pushBc | .pushHl | .pushAf | .rst00 | .rst08 | .rst10 | .rst18 | .rst20 | .rst28
  | .rst30 | .rst38 | .popBc | .popHl | .popAf | .ret | .retn | .ldSpNn _ | .ldSpHl => true
  | _ => false

/-- The instructions that write PC beyond the fetch: the control transfers. -/
def writesPc : Instr → Bool
  | .jpNn _ | .jpNzNn _ | .jpZNn _ | .jpHl | .jrE _ | .jrNzE _ | .jrZE _ | .djnzE _ | .callNn _ | .ret
  | .retn | .rst00 | .rst08 | .rst10 | .rst18 | .rst20 | .rst28 | .rst30 | .rst38 | .synJcond _ => true
  | _ => false

/-- The instructions that write a flip-flop (R202, R203, R209). -/
def writesFlipFlops : Instr → Bool
  | .di | .ei | .retn => true
  | _ => false

/-- The instructions that write IM (R204 to R206). -/
def writesIm : Instr → Bool
  | .im0 | .im1 | .im2 => true
  | _ => false

/-- The states that can arise, from a launch with ANY memory (`20_memory.md` R77), by steps and host
operations (R189), for the parameters and a table. -/
inductive Reachable (p : Params) (table : Table) : State → Prop where
  | launch (mem : Memory) : mem.wf = true → Reachable p table (State.launch mem)
  | event (e : Event) {s t : State} :
      Reachable p table s → applyEvent p table e s = .next t → Reachable p table t

/-- `runFrame(memory, budget)` (R187) for any stepper ends with an outcome: the loop, run for enough
rounds, gives it. -/
def FrameEnds (stepper : State → Host.Outcome Returned Fault Refusal) (budget : Nat) (s : State)
    (out : Host.Outcome Returned Fault Refusal) : Prop :=
  ∃ rounds, runFrameWithin stepper budget rounds s = some out

end Sys2Proof.Machine
end

