-- ==== Sys2Proof/Certificates/Slice0/Obligations.lean ====
section
/-! DEFINITION. The statements for the provers. A statement marked 'stated' in OBLIGATIONS.json formalises
the numbered rules it cites; a statement marked 'derived' rests on a decision, a derivation or a piece of
general knowledge that the spec marks as its own, or on a choice of the model, and its docstring says which.
The rules of `44_reference_table.md` define TREF and are from general knowledge, not from the document
(log entry 22); the statements about TREF formalise those rules as the spec words them. -/

section Statements

open Sys2Proof Sys2Proof.Machine

/-! ### State, reset, host -/

/-- R50: what reset leaves, for every item the document gives a value for: after the host's reset of any
state, in a launch state with any memory, and in the initial state of the interface. -/
def Obligations.ResetLeavesTheDocumentsValues : Prop :=
  ∀ (p : Params) (s : State) (mem : Memory), s.fatal = false → ∃ t, hostOp p .reset s = .next t ∧
    ∀ u ∈ [t, State.launch mem, State.reset],
      u.pc = 0x0000 ∧ u.sp = 0xFFFF ∧ u.af = 0xFFFF ∧ u.bc = 0xFFFF ∧ u.de = 0xFFFF ∧ u.hl = 0xFFFF ∧
      u.afx = 0xFFFF ∧ u.bcx = 0xFFFF ∧ u.dex = 0xFFFF ∧ u.hlx = 0xFFFF ∧ u.ix = 0xFFFF ∧
      u.iy = 0xFFFF ∧ u.ir = 0x00FF ∧ u.iff1 = false ∧ u.iff2 = false

/-- The rest of the reset state: IM, HALT, the latches and the cycle total take the values the spec decides
(D23; log entry 13), every flag is 1, and memory is not touched; a launch state has the memory it is
launched with, whatever that is (`20_memory.md` R77). -/
def Obligations.ResetLeavesTheSpecsOwnValues : Prop :=
  ∀ (p : Params) (s : State) (mem : Memory), s.fatal = false → ∃ t, hostOp p .reset s = .next t ∧
    t.mem = s.mem ∧ (State.launch mem).mem = mem ∧ t = State.launch s.mem ∧
    ∀ u ∈ [t, State.launch mem, State.reset],
      u.im = .mode0 ∧ u.halt = false ∧ u.intp = false ∧ u.nmip = false ∧ u.tcyc = 0 ∧ u.fatal = false ∧
      ∀ fl, flag fl u = true

/-- The halves are views of the words (R22, R28, R29; the names are the spec's derivation): which word and
which byte each half is, that a half reads back as written, and that writing one changes no other half and
no other word. -/
def Obligations.HalvesAreViewsOfTheWords : Prop :=
  (∀ s, read8 .a s = hiByte s.af ∧ read8 .f s = loByte s.af ∧ read8 .b s = hiByte s.bc ∧
    read8 .c s = loByte s.bc ∧ read8 .d s = hiByte s.de ∧ read8 .e s = loByte s.de ∧
    read8 .h s = hiByte s.hl ∧ read8 .l s = loByte s.hl ∧ read8 .ixh s = hiByte s.ix ∧
    read8 .ixl s = loByte s.ix ∧ read8 .iyh s = hiByte s.iy ∧ read8 .iyl s = loByte s.iy ∧
    read8 .i s = hiByte s.ir ∧ read8 .r s = loByte s.ir) ∧
  (∀ (w : Word) (k : Nat), k < 8 →
    (hiByte w).getLsbD k = w.getLsbD (8 + k) ∧ (loByte w).getLsbD k = w.getLsbD k) ∧
  (∀ reg v s, read8 reg (write8 reg v s) = v ∧
    (∀ other, other ≠ reg → read8 other (write8 reg v s) = read8 other s) ∧
    (∀ word, word ≠ reg.home → readReg word (write8 reg v s) = readReg word s) ∧
    write8 reg v s = writeReg reg.home (readReg reg.home (write8 reg v s)) s)

/-- R23: the layout of F and the masks. -/
def Obligations.FlagBitsAreTheLayoutOfF : Prop :=
  (∀ s, flag .s s = s.af.getLsbD 7 ∧ flag .z s = s.af.getLsbD 6 ∧ flag .y s = s.af.getLsbD 5 ∧
    flag .hf s = s.af.getLsbD 4 ∧ flag .x s = s.af.getLsbD 3 ∧ flag .pv s = s.af.getLsbD 2 ∧
    flag .n s = s.af.getLsbD 1 ∧ flag .cf s = s.af.getLsbD 0) ∧
  flagIf true .s = 0x80 ∧ flagIf true .z = 0x40 ∧ flagIf true .y = 0x20 ∧ flagIf true .hf = 0x10 ∧
  flagIf true .x = 0x08 ∧ flagIf true .pv = 0x04 ∧ flagIf true .n = 0x02 ∧ flagIf true .cf = 0x01

/-- The representation of memory (log entry 4, the model's choice): every content of the 65536 bytes is a
canonical list, and two canonical lists that read alike are equal; so the launch memory of `20_memory.md`
R77 can be any content. -/
def Obligations.MemoryIsItsContents : Prop :=
  (∀ content : Nat → Byte, ∃ m : Memory, m.wf = true ∧ ∀ a, a < 65536 → memGet m a = content a) ∧
  ∀ m m' : Memory, m.wf = true → m'.wf = true →
    (∀ a, a < 65536 → memGet m a = memGet m' a) → m = m'

/-- The stack primitives (R158, R159; decision D15), for any writability map: where the two bytes go, that
a byte is lost where the map is false and SP moves all the same, and that `Pop16` undoes `Push16` when both
bytes are writable. -/
def Obligations.PopAfterPushGivesTheWordBack : Prop :=
  ∀ (writable : Word → Bool) (v : Word) (s : State),
    push16With writable v s = { s with sp := s.sp - 2, mem := (push16With writable v s).mem } ∧
    (∀ x, readByte x (push16With writable v s) =
      if x = s.sp - 2 ∧ writable x = true then loByte v
      else if x = s.sp - 1 ∧ writable x = true then hiByte v
      else readByte x s) ∧
    (writable (s.sp - 1) = true → writable (s.sp - 2) = true →
      pop16 (push16With writable v s) = (v, { s with mem := (push16With writable v s).mem }))

/-- The image load puts byte `k` at address `k` (R188). That any state at a step boundary admits it, where
R188 puts it before the first step, and that it writes past WRITABLE, is the model's choice (log entry 25). -/
def Obligations.ImageLoadIsVerbatimAtZero : Prop :=
  ∀ (p : Params) (image : List Byte) (s : State), image.length ≤ 65536 → s.fatal = false →
    ∃ t, hostOp p (.load image) s = .next t ∧ t = { s with mem := t.mem } ∧
      ∀ x : Word, readByte x t =
        if x.toNat < image.length then image.getD x.toNat 0 else readByte x s

/-- The other host operations (D11, D25, D30), for any parameters; the bus write between steps (log entry
20), which is lost where WRITABLE is false; an image that does not fit (log entry 19); and that no host
operation and no step is left once FATAL is set (D5), when the recorded error and the registers can still
be shown. -/
def Obligations.HostOperationsDoWhatTheySay : Prop :=
  (∀ (p : Params) (s : State), s.fatal = false →
    (∀ m, hostOp p (.setMode m) s = .next { s with im := m }) ∧
    hostOp p .requestInt s = .next { s with intp := true } ∧
    hostOp p .requestNmi s = .next { s with nmip := true } ∧
    (∀ a v, ∃ t, hostOp p (.poke a v) s = .next t ∧ t = { s with mem := t.mem } ∧
      ∀ x, readByte x t = if x = a ∧ p.writable a = true then v else readByte x s) ∧
    (∀ image : List Byte, 65536 < image.length → hostOp p (.load image) s = .fault .imageTooLong) ∧
    isHalted s = .next s.halt ∧ snapshot s = .next (registersOf s)) ∧
  (∀ (p : Params) (s : State), s.fatal = true →
    (∀ op, hostOp p op s = .fault .sessionOver) ∧ isHalted s = .fault .sessionOver ∧
    snapshot s = .fault .sessionOver ∧
    (∀ table, stepWith p table s = .fault .sessionOver) ∧
    (∀ stepper budget rounds,
      runFrameWithin stepper budget rounds s = some (.fault .sessionOver)) ∧
    ∀ info, s.fatalInfo = some info → fatalReport s = some (info, registersOf s)) ∧
  ∀ s : State, registersOf s =
    { af := s.af, bc := s.bc, de := s.de, hl := s.hl, afx := s.afx, bcx := s.bcx, dex := s.dex,
      hlx := s.hlx, ix := s.ix, iy := s.iy, ir := s.ir, pc := s.pc, sp := s.sp, iff1 := s.iff1,
      iff2 := s.iff2, im := s.im, halt := s.halt }

/-! ### The decoder -/

/-- The whole decoder (R111, derived from R101 to R108): it is the pseudocode. -/
def Obligations.DecoderIsThePseudocode : Prop :=
  ∀ src : Nat → Byte,
    (¬ IsPrefixByte (src 0) → decodeSelector src = .ok (src 0).toNat 1) ∧
    (IsPrefixByte (src 0) → ¬ IsPrefixByte (src 1) →
      decodeSelector src = .ok (rank (src 0) * 256 + (src 1).toNat) 2) ∧
    (IsPrefixByte (src 0) → IsPrefixByte (src 1) → ¬ IsPrefixByte (src 2) →
      decodeSelector src =
        if src 1 = 0xED then .ok (3 * 256 + (src 2).toNat) 3
        else .ok ((rank (src 0) + 4 + rank (src 1)) * 256 + (src 2).toNat) 3) ∧
    (IsPrefixByte (src 0) → IsPrefixByte (src 1) → IsPrefixByte (src 2) →
      decodeSelector src = .fatal (src 0) (src 1) (src 2)) ∧
    rank 0xDD = 1 ∧ rank 0xFD = 2 ∧ rank 0xED = 3 ∧ rank 0xCB = 4 ∧
    ∀ b, ¬ IsPrefixByte b → rank b = 0

/-- R113 to R117: the unprefixed pattern and the four single-prefix patterns, their padded triples and
ranks, their selectors and lengths, the four selectors that cannot result, that the collision patterns share
the selectors of pattern ED at length 3, and that a prefix byte in second place makes another pattern. -/
def Obligations.SinglePrefixPatterns : Prop :=
  (∀ src : Nat → Byte, ¬ IsPrefixByte (src 0) →
    decodeSelector src = .ok (src 0).toNat 1 ∧ scan src = .opcode .bare (src 0) ∧
    padded (collide .bare) = (0x00, 0x00)) ∧
  (∀ src : Nat → Byte, ¬ IsPrefixByte (src 1) →
    (src 0 = 0xDD → decodeSelector src = .ok (256 + (src 1).toNat) 2 ∧
      scan src = .opcode (.one .dd) (src 1) ∧ padded (collide (.one .dd)) = (0x00, 0xDD)) ∧
    (src 0 = 0xFD → decodeSelector src = .ok (512 + (src 1).toNat) 2 ∧
      scan src = .opcode (.one .fd) (src 1) ∧ padded (collide (.one .fd)) = (0x00, 0xFD)) ∧
    (src 0 = 0xED → decodeSelector src = .ok (768 + (src 1).toNat) 2 ∧
      scan src = .opcode (.one .ed) (src 1) ∧ padded (collide (.one .ed)) = (0x00, 0xED)) ∧
    (src 0 = 0xCB → decodeSelector src = .ok (1024 + (src 1).toNat) 2 ∧
      scan src = .opcode (.one .cb) (src 1) ∧ padded (collide (.one .cb)) = (0x00, 0xCB))) ∧
  rank 0x00 = 0 ∧ rank 0xDD = 1 ∧ rank 0xFD = 2 ∧ rank 0xED = 3 ∧ rank 0xCB = 4 ∧
  (∀ src : Nat → Byte, IsPrefixByte (src 0) → src 1 = 0xED → ¬ IsPrefixByte (src 2) →
    decodeSelector src = .ok (768 + (src 2).toNat) 3) ∧
  (∀ (src : Nat → Byte) (p : Prefix) (op : Byte), IsPrefixByte (src 1) →
    scan src ≠ .opcode (.one p) op) ∧
  ∀ (src : Nat → Byte) (sel len : Nat), decodeSelector src = .ok sel len →
    sel ≠ 0xCB ∧ sel ≠ 0xDD ∧ sel ≠ 0xED ∧ sel ≠ 0xFD

/-- The twelve two-prefix patterns whose second prefix is not 0xED (R118 to R129, derived from the selector
formula R107): the band of each. -/
def Obligations.TwoPrefixPatterns : Prop :=
  ∀ src : Nat → Byte, ¬ IsPrefixByte (src 2) →
    (src 0 = 0xDD → src 1 = 0xDD → decodeSelector src = .ok (1536 + (src 2).toNat) 3) ∧
    (src 0 = 0xDD → src 1 = 0xFD → decodeSelector src = .ok (1792 + (src 2).toNat) 3) ∧
    (src 0 = 0xDD → src 1 = 0xCB → decodeSelector src = .ok (2304 + (src 2).toNat) 3) ∧
    (src 0 = 0xFD → src 1 = 0xDD → decodeSelector src = .ok (1792 + (src 2).toNat) 3) ∧
    (src 0 = 0xFD → src 1 = 0xFD → decodeSelector src = .ok (2048 + (src 2).toNat) 3) ∧
    (src 0 = 0xFD → src 1 = 0xCB → decodeSelector src = .ok (2560 + (src 2).toNat) 3) ∧
    (src 0 = 0xED → src 1 = 0xDD → decodeSelector src = .ok (2048 + (src 2).toNat) 3) ∧
    (src 0 = 0xED → src 1 = 0xFD → decodeSelector src = .ok (2304 + (src 2).toNat) 3) ∧
    (src 0 = 0xED → src 1 = 0xCB → decodeSelector src = .ok (2816 + (src 2).toNat) 3) ∧
    (src 0 = 0xCB → src 1 = 0xDD → decodeSelector src = .ok (2304 + (src 2).toNat) 3) ∧
    (src 0 = 0xCB → src 1 = 0xFD → decodeSelector src = .ok (2560 + (src 2).toNat) 3) ∧
    (src 0 = 0xCB → src 1 = 0xCB → decodeSelector src = .ok (3072 + (src 2).toNat) 3)

/-- R105, R130, R131: of two collected prefix bytes the first is discarded when the second is 0xED,
whatever the first is; the selector is that of the sequence without the first byte, and the length is not:
3 against 2. -/
def Obligations.CollisionDiscardsTheFirstPrefix : Prop :=
  ∀ src : Nat → Byte, IsPrefixByte (src 0) → src 1 = 0xED → ¬ IsPrefixByte (src 2) →
    decodeSelector src = .ok (768 + (src 2).toNat) 3 ∧
    decodeSelector (fun i => src (i + 1)) = .ok (768 + (src 2).toNat) 2

/-- Three prefix bytes, and nothing else, raise `FatalDecode` with those bytes; the fourth byte does not
matter; PC is not advanced (R134). That the step on them answers a next state with FATAL set and no count is
decision D5 of the spec (R260) in the form of log entry 6, the model's choice. -/
def Obligations.ThreePrefixBytesAreFatal : Prop :=
  (∀ (src : Nat → Byte) (b0 b1 b2 : Byte), decodeSelector src = .fatal b0 b1 b2 ↔
    IsPrefixByte b0 ∧ IsPrefixByte b1 ∧ IsPrefixByte b2 ∧ src 0 = b0 ∧ src 1 = b1 ∧ src 2 = b2) ∧
  ∀ (p : Params) (table : Table) (s : State), s.fetches = true →
    IsPrefixByte (readByte s.pc s) → IsPrefixByte (readByte (s.pc + 1) s) →
    IsPrefixByte (readByte (s.pc + 2) s) →
    ∃ t, stepWith p table s = .next ⟨none, t⟩ ∧ t.fatal = true ∧ t.pc = s.pc

/-- What the fatal decode error leaves (R260, R261; decision D5, log entries 6 and 7): FATAL and the
recorded information, nothing else, in an ordinary step and in a mode 0 acceptance; no count is returned. -/
def Obligations.FatalDecodeChangesNothingElse : Prop :=
  ∀ (p : Params) (table : Table) (s : State) (b0 b1 b2 : Byte),
    (s.fetches = true → decodeSelector (pcSource s) = .fatal b0 b1 b2 →
      stepWith p table s =
        .next ⟨none, { s with fatal := true, fatalInfo := some ⟨s.pc, b0, b1, b2⟩ }⟩) ∧
    (s.fatal = false → s.nmip = false → s.intp = true → s.iff1 = true → s.im = .mode0 →
      decodeSelector p.intDevice = .fatal b0 b1 b2 →
      stepWith p table s =
        .next ⟨none, { s with fatal := true, fatalInfo := some ⟨0, b0, b1, b2⟩ }⟩)

/-- The range of selectors and the boundary that gives the length (R109, R85, derived): no selector above
3327, none in 1280 to 1535, no prefix value as low byte, and outside the collision the selector gives the
length. -/
def Obligations.SelectorGivesTheLength : Prop :=
  ∀ (src : Nat → Byte) (sel len : Nat), decodeSelector src = .ok sel len →
    sel ≤ 3327 ∧ ¬ (1280 ≤ sel ∧ sel < 1536) ∧ ¬ IsPrefixByte (BitVec.ofNat 8 sel) ∧
    ((IsPrefixByte (src 0) ∧ src 1 = 0xED ∧ len = 3 ∧ 768 ≤ sel ∧ sel < 1024) ∨
      (¬ (IsPrefixByte (src 0) ∧ src 1 = 0xED) ∧
        len = if 1280 ≤ sel then 3 else if 256 ≤ sel then 2 else 1))

/-- Injectivity on the seven regular patterns (R135, derived): equal selectors mean equal pattern and equal
final byte. -/
def Obligations.RegularPatternsAreInjective : Prop :=
  ∀ pat ∈ [Pattern.bare, .one .dd, .one .fd, .one .ed, .one .cb, .two .dd .cb, .two .fd .cb],
  ∀ pat' ∈ [Pattern.bare, .one .dd, .one .fd, .one .ed, .one .cb, .two .dd .cb, .two .fd .cb],
  ∀ o o' : Byte, pat.selector o = pat'.selector o' → pat = pat' ∧ o = o'

/-- Decoding the encoding of any well-formed instruction, whatever bytes follow it, gives that instruction
and its length: no bit of an encoding is dropped (the encoder is the model's, from the encoding of each
rule; log entries 11 and 12). -/
def Obligations.DecodeOfEncode : Prop :=
  ∀ (i : Instr) (src : Nat → Byte), i.wellFormed = true → StartsWith src (encode i) →
    (decode src).instr = i ∧
    ((decode src).len + (decode src).n = (encode i).length ∨
      (decode src).len = 0 ∧ ∃ b0 b1 b2, decodeSelector src = .fatal b0 b1 b2)

/-- The bytes of the instruction decoded are the bytes decoded, except that a collision whose selector the
table maps decodes to the ED instruction, whose bytes lack the discarded prefix (log entry 12). -/
def Obligations.EncodeOfDecode : Prop :=
  ∀ src : Nat → Byte,
    StartsWith src (encode (decode src).instr) ∨
    (IsPrefixByte (src 0) ∧ src 1 = 0xED ∧ ¬ IsPrefixByte (src 2) ∧
      mappedSelectors.contains (768 + (src 2).toNat) = true ∧
      StartsWith (fun i => src (i + 1)) (encode (decode src).instr))

/-- Whatever the bytes, what the decoder gives is a well-formed instruction (log entry 11). -/
def Obligations.DecodedIsWellFormed : Prop :=
  ∀ src : Nat → Byte, (decode src).instr.wellFormed = true

/-- A few words written out from the spec's encodings decode to what they stand for: one of each family. -/
def Obligations.SpecWordsDecode : Prop :=
  decodeTableWord 8 0x00 = some .nop ∧ decodeTableWord 16 0x3EDD = some (.ldAN 0xDD) ∧
  decodeTableWord 24 0x013412 = some (.ldBcNn 0x1234) ∧
  decodeTableWord 32 0xDD210090 = some (.ldIxNn 0x9000) ∧
  decodeTableWord 24 0xDD7EFF = some (.ldAIxd 0xFF) ∧
  decodeTableWord 24 0xC3FDFF = some (.jpNn 0xFFFD) ∧ decodeTableWord 16 0x10FB = some (.djnzE 0xFB) ∧
  decodeTableWord 8 0xFF = some .rst38 ∧ decodeTableWord 8 0xF5 = some .pushAf ∧
  decodeTableWord 8 0x80 = some .addAB ∧ decodeTableWord 16 0xCB00 = some .rlcB ∧
  decodeTableWord 16 0xED47 = some .ldIA ∧ decodeTableWord 24 0xDDED47 = some .ldIA ∧
  decodeTableWord 24 0xDDDD21 = some (.pfxDdDd 0x21) ∧
  decodeTableWord 24 0xDDCBDD = some .pfxFatalDdCbDd ∧
  decodeTableWord 32 0xCBCBFEFB = some (.synJcond 0xFB)

/-! ### The step -/

/-- The machine's step runs the instruction decoded at PC: `exec` on the state whose PC is past the
instruction and whose INTP is cleared, then the cost by whether PC moved; a three-prefix instruction runs
on the state as it was (log entries 1, 6, 8, 16). -/
def Obligations.StepRunsTheDecodedInstruction : Prop :=
  ∀ s : State, s.fetches = true →
    (∀ b0 b1 b2, decodeSelector (pcSource s) = .fatal b0 b1 b2 →
      step s = exec (decode (pcSource s)).instr s) ∧
    (∀ sel len t, decodeSelector (pcSource s) = .ok sel len →
      (decode (pcSource s)).len = len ∧
      (decode (pcSource s)).n = (machineTable Config.params sel).n ∧
      (exec (decode (pcSource s)).instr
          { s with pc := s.pc + BitVec.ofNat 16 (len + (machineTable Config.params sel).n),
                   intp := false } = .next t →
        step s = .next { t with tcyc := t.tcyc +
          if t.pc = s.pc + BitVec.ofNat 16 (len + (machineTable Config.params sel).n)
          then (machineTable Config.params sel).base else (machineTable Config.params sel).alt }))

/-- The ordinary step for any parameters and table, phase by phase (R146, R147, R149, R150, R152): decode at
PC, advance (and nothing written when the decoder raises `FatalDecode`), look up (unmapped selectors of TREF
give the default), fetch the operand bytes at the advanced PC, run the transition function with PC at the
post-fetch PC, and report `base` or `alt` by whether PC moved. The transition function sees INTP, NMIP, TCYC
and FATAL as constants and what it makes of them is dropped (R142, D8). Derived, because clauses rest on
the spec's decisions D24 (the cost is added to TCYC), D7 (the order of the operand bytes), D12 (the cleared
INTP) and D5, and on log entries 6 and 7 (the fatal error is a next state with its information recorded). -/
def Obligations.OrdinaryStepIsThePhases : Prop :=
  (∀ (p : Params) (table : Table) (s : State), s.fetches = true →
    (∀ b0 b1 b2, decodeSelector (pcSource s) = .fatal b0 b1 b2 →
      ∃ t, stepWith p table s = .next ⟨none, t⟩ ∧
        t = { s with fatal := true, fatalInfo := t.fatalInfo }) ∧
    (∀ sel len, decodeSelector (pcSource s) = .ok sel len →
      ∃ (ops : List Byte) (pf : Word) (u : State) (cyc : Nat), ops.length = (table sel).n ∧
        (∀ i, i < (table sel).n →
          ops.getD i 0 = readByte (s.pc + BitVec.ofNat 16 len + BitVec.ofNat 16 i) s) ∧
        pf = s.pc + BitVec.ofNat 16 len + BitVec.ofNat 16 (table sel).n ∧
        u = (table sel).exec ops { s with pc := pf, intp := false, nmip := false, tcyc := 0,
                                          fatal := false, fatalInfo := none } ∧
        cyc = (if u.pc = pf then (table sel).base else (table sel).alt) ∧
        stepWith p table s = .next ⟨some cyc,
          { u with intp := false, nmip := false, tcyc := s.tcyc + cyc, fatal := false,
                   fatalInfo := s.fatalInfo }⟩)) ∧
  ∀ p : Params, trefTable p 3327 = defaultDesc p ∧
    ∀ sel, mappedSelectors.contains sel = false → trefTable p sel = defaultDesc p

/-- PC and the fetch wrap modulo 65536 (R33; that byte i of every fetch, the decoder's look-ahead among them,
is at PC + i modulo 65536 is decision D4 of the spec, R76 and R103). Every two-byte instruction at 0xFFFF
takes its second byte from address 0, and a step on it answers a next state with a count: PC is what its
transition function makes of 0x0001, so 0x0001 for every one that does not move PC; AF is as before for
every one that leaves AF alone. The spec's own example S1, LD A,n at 0xFFFF, is spelled out, and LD A,I and
RLC B, which write AF too. -/
def Obligations.PcWrapsModulo65536 : Prop :=
  (∀ (s : State) (k : Nat), (advance k s).pc.toNat = (s.pc.toNat + k) % 65536) ∧
  (∀ (s : State) (i : Nat), pcSource s i = readByte (BitVec.ofNat 16 ((s.pc.toNat + i) % 65536)) s) ∧
  (∀ (p : Params) (table : Table) (s : State) (sel len : Nat),
    s.fetches = true → s.pc = 0xFFFF → decodeSelector (pcSource s) = .ok sel len →
    len + (table sel).n = 2 →
    pcSource s 1 = readByte 0x0000 s ∧
    ∃ c t, stepWith p table s = .next ⟨some c, t⟩ ∧
      ((∀ ops u, u.pc = 0x0001 → ((table sel).exec ops u).pc = 0x0001) → t.pc = 0x0001) ∧
      ((∀ ops u, ((table sel).exec ops u).af = u.af) → t.af = s.af)) ∧
  ∀ (p : Params) (s : State), s.fetches = true → s.pc = 0xFFFF →
    (readByte 0xFFFF s = 0x3E →
      stepWith p (trefTable p) s = .next ⟨some 7,
        { s with af := joinBytes (readByte 0x0000 s) (loByte s.af), pc := 0x0001, intp := false,
                 tcyc := s.tcyc + 7 }⟩) ∧
    (readByte 0xFFFF s = 0xED → readByte 0x0000 s = 0x57 →
      ∃ t, stepWith p (trefTable p) s = .next ⟨some 9, t⟩ ∧ t.pc = 0x0001 ∧
        read8 .a t = read8 .i s) ∧
    (readByte 0xFFFF s = 0xCB → readByte 0x0000 s = 0x00 →
      ∃ t, stepWith p (trefTable p) s = .next ⟨some 8, t⟩ ∧ t.pc = 0x0001 ∧
        read8 .b t = (read8 .b s).rotateLeft 1)

/-- NMI acceptance (R272, R270; decisions D13, D15, D16, D21) for any parameters and table, the values of the
machine's own parameters, and that a maskable request made together with it is lost at the next boundary. -/
def Obligations.NmiIsTakenFirst : Prop :=
  (∀ (p : Params) (table : Table) (s : State), s.fatal = false → s.nmip = true →
    ∃ t, stepWith p table s = .next ⟨some p.nmiAckCycles, t⟩ ∧
      t = { s with nmip := false, halt := false, iff1 := false, sp := s.sp - 2, pc := p.nmiVector,
                   tcyc := s.tcyc + p.nmiAckCycles, mem := t.mem } ∧
      Pushed p.writable s.pc s t ∧
      ∀ sel len, decodeSelector (pcSource t) = .ok sel len →
        stepWith p table t = stepWith p table { t with intp := false }) ∧
  Config.params.nmiVector = 0x0066 ∧ Config.params.nmiAckCycles = 11

/-- INT acceptance in modes 1 and 2 (R273, R275, R276; decisions D15, D17, D19, D21) for any parameters and
table, and the values of the machine's own parameters; in mode 2 the table entry is read after the push. -/
def Obligations.IntModesOneAndTwo : Prop :=
  (∀ (p : Params) (table : Table) (s : State),
    s.fatal = false → s.nmip = false → s.intp = true → s.iff1 = true →
    (s.im = .mode1 → ∃ t, stepWith p table s = .next ⟨some p.im1AckCycles, t⟩ ∧
      t = { s with intp := false, halt := false, iff1 := false, iff2 := false, sp := s.sp - 2,
                   pc := p.im1Vector, tcyc := s.tcyc + p.im1AckCycles, mem := t.mem } ∧
      Pushed p.writable s.pc s t) ∧
    (s.im = .mode2 → ∃ t, stepWith p table s = .next ⟨some p.im2AckCycles, t⟩ ∧
      t = { s with intp := false, halt := false, iff1 := false, iff2 := false, sp := s.sp - 2,
                   pc := joinBytes (readByte (joinBytes (read8 .i s) (p.intDevice 0) + 1) t)
                                   (readByte (joinBytes (read8 .i s) (p.intDevice 0)) t),
                   tcyc := s.tcyc + p.im2AckCycles, mem := t.mem } ∧
      Pushed p.writable s.pc s t)) ∧
  Config.params.im1Vector = 0x0038 ∧ Config.params.im1AckCycles = 13 ∧ Config.params.im2AckCycles = 19

/-- INT acceptance in mode 0 (R274; decisions D18, D20, D21) for any parameters and table: one instruction
from the device, PC not advanced, `IM0_ACK_EXTRA` cycles more (2 in the machine's own step); with a device
that supplies 0xFF and the reference table it is the mode 1 transfer, at 11 cycles and that extra. -/
def Obligations.IntModeZero : Prop :=
  (∀ (p : Params) (table : Table) (s : State),
    s.fatal = false → s.nmip = false → s.intp = true → s.iff1 = true → s.im = .mode0 →
    (∀ sel len, decodeSelector p.intDevice = .ok sel len →
      ∃ (ops : List Byte) (u : State) (cyc : Nat), ops.length = (table sel).n ∧
        (∀ i, i < (table sel).n → ops.getD i 0 = p.intDevice (len + i)) ∧
        u = (table sel).exec ops { s with intp := false, nmip := false, halt := false, iff1 := false,
                                          iff2 := false, tcyc := 0, fatal := false,
                                          fatalInfo := none } ∧
        cyc = (if u.pc = s.pc then (table sel).base else (table sel).alt) + p.im0AckExtra ∧
        stepWith p table s = .next ⟨some cyc,
          { u with intp := false, nmip := false, tcyc := s.tcyc + cyc, fatal := false,
                   fatalInfo := s.fatalInfo }⟩) ∧
    ((∀ i, p.intDevice i = 0xFF) → table = trefTable p →
      ∃ t, stepWith p table s = .next ⟨some (11 + p.im0AckExtra), t⟩ ∧
        t = { s with intp := false, halt := false, iff1 := false, iff2 := false, sp := s.sp - 2,
                     pc := 0x0038, tcyc := s.tcyc + (11 + p.im0AckExtra), mem := t.mem } ∧
        Pushed p.writable s.pc s t)) ∧
  Config.params.im0AckExtra = 2

/-- A maskable request met with IFF1 false is dropped and the same step goes on to idle or to an instruction
(R271; decision D12), for any parameters and table. -/
def Obligations.MaskedRequestIsDropped : Prop :=
  ∀ (p : Params) (table : Table) (s : State),
    s.fatal = false → s.nmip = false → s.intp = true → s.iff1 = false →
    (s.halt = true →
      stepWith p table s =
        .next ⟨some p.haltIdleCycles, { s with intp := false, tcyc := s.tcyc + p.haltIdleCycles }⟩) ∧
    (s.halt = false → ∀ sel len, decodeSelector (pcSource s) = .ok sel len →
      stepWith p table s = stepWith p table { s with intp := false })

/-- The halted idle (R278, R311; decision D9), for any parameters and table: while nothing wakes the core, any
number of steps changes the cycle total only, by `HALT_IDLE_CYCLES` a step (4 in the machine's own step; a
masked request is dropped by the first). -/
def Obligations.HaltIdlesForAnyNumberOfSteps : Prop :=
  (∀ (p : Params) (table : Table) (s : State) (k : Nat),
    s.fatal = false → s.nmip = false → (s.intp && s.iff1) = false → s.halt = true →
    runSteps (stepWith p table) k s =
      .next ⟨some (p.haltIdleCycles * k),
        { s with intp := (if k = 0 then s.intp else false),
                 tcyc := s.tcyc + p.haltIdleCycles * k }⟩) ∧
  Config.params.haltIdleCycles = 4

/-- The halt state machine (R277), over the machine's own step and table (log entry 1): Running to Halted when HALT executes (at PC, or
supplied by the device in mode 0); Halted to Running when an INT or an NMI is accepted; Halted to Halted on
every other step; Running on reset; a halted step that accepts nothing leaves all but the cycle count (and
a dropped request, decision D12) unchanged. Derived, because clauses rest on decisions of the spec: D9 (PC
at the byte after HALT, R171), D12, D18 (R274: in mode 0 the device's instruction may be HALT) and, for the
mode 0 acceptance whose device supplies three prefix bytes, D5 with log entry 6 (it answers a next state
that is still halted). -/
def Obligations.HaltStateMachine : Prop :=
  (∀ s t : State, step s = .next t →
    (s.halt = false → t.halt = true →
      (s.fetches = true ∧ (decode (pcSource s)).instr = .halt) ∨
      (s.intp = true ∧ s.iff1 = true ∧ s.im = .mode0 ∧ (decode Config.intDevice).instr = .halt)) ∧
    (s.halt = true → (s.nmip = true ∨ (s.intp = true ∧ s.iff1 = true)) →
      t.halt = false ∨
      (s.nmip = false ∧ s.im = .mode0 ∧
        ((decode Config.intDevice).instr = .halt ∨
          ∃ b0 b1 b2, decodeSelector Config.intDevice = .fatal b0 b1 b2))) ∧
    (s.halt = true → s.nmip = false → (s.intp = true → s.iff1 = false) →
      t = { s with intp := false, tcyc := t.tcyc })) ∧
  (∀ s, s.fetches = true → (decode (pcSource s)).instr = .halt →
    ∃ t, step s = .next t ∧ t.halt = true ∧ t.pc = s.pc + 1) ∧
  ∀ p s t, hostOp p .reset s = .next t → t.halt = false

/-- R317: no drift. For any parameters and every table, over any number of steps TCYC grows by exactly the sum
of the counts those steps returned; a step that returns no count and a host operation leave it alone; reset
sets it to 0. -/
def Obligations.NoDrift : Prop :=
  (∀ (p : Params) (table : Table),
    (∀ (k : Nat) (s t : State) (sum : Nat),
      runSteps (stepWith p table) k s = .next ⟨some sum, t⟩ → t.tcyc = s.tcyc + sum) ∧
    (∀ s t, stepWith p table s = .next ⟨none, t⟩ → t.tcyc = s.tcyc)) ∧
  (∀ p op s t, hostOp p op s = .next t → if op = .reset then t.tcyc = 0 else t.tcyc = s.tcyc)

/-- TREF and the machine's own table meet the table contract for any parameters: their transition functions
neither read nor write INTP, NMIP, TCYC and FATAL, keep the memory canonical, and change no byte where
WRITABLE is false; every cost is greater than 0 when `DEFAULT_CYCLES` is (R142, R259, R60; the last from
decision D26, TREF from general knowledge; log entries 1 and 2). -/
def Obligations.TablesMeetTheContract : Prop :=
  ∀ p : Params, (trefTable p).Contract p.writable ∧ (machineTable p).Contract p.writable ∧
    ∀ sel, (trefTable p sel).n ≤ 2 ∧ (machineTable p sel).n ≤ 2 ∧
      (0 < p.defaultCycles →
        0 < (trefTable p sel).base ∧ 0 < (trefTable p sel).alt ∧
        0 < (machineTable p sel).base ∧ 0 < (machineTable p sel).alt)

/-- The frame driver (R187; decision D28), for any parameters, table and budget, costs of 0 allowed: it is
`t = 0; while t < budget: t = t + step(memory); return t`. Its outcome is unique; with budget 0 it runs no
step; a frame that runs a step is that step and the frame of the rest of the budget, with the counts added; a
`FatalDecode` of a step is one of the frame; whenever it ends with a count, that reaches the budget and is
what TCYC grew by; and it ends when every cost is positive. The machine's own `runFrame` is that frame and
always ends. No frame exists once FATAL is set (R190, D5). -/
def Obligations.RunFrameReachesTheBudget : Prop :=
  (∀ (p : Params) (table : Table) (budget : Nat) (s : State),
    (∀ out out', FrameEnds (stepWith p table) budget s out → FrameEnds (stepWith p table) budget s out' →
      out = out') ∧
    (s.fatal = true → FrameEnds (stepWith p table) budget s (.fault .sessionOver)) ∧
    (s.fatal = false → FrameEnds (stepWith p table) 0 s (.next ⟨some 0, s⟩)) ∧
    (∀ c s' k t, 0 < budget → stepWith p table s = .next ⟨some c, s'⟩ →
      (FrameEnds (stepWith p table) budget s (.next ⟨some (c + k), t⟩) ↔
        FrameEnds (stepWith p table) (budget - c) s' (.next ⟨some k, t⟩))) ∧
    (∀ s', 0 < budget → stepWith p table s = .next ⟨none, s'⟩ →
      FrameEnds (stepWith p table) budget s (.next ⟨none, s'⟩)) ∧
    (∀ c t, FrameEnds (stepWith p table) budget s (.next ⟨some c, t⟩) →
      budget ≤ c ∧ t.tcyc = s.tcyc + c ∧ t.fatal = false) ∧
    (∀ t, FrameEnds (stepWith p table) budget s (.next ⟨none, t⟩) → t.fatal = true) ∧
    (s.fatal = false → (∀ sel, 0 < (table sel).base ∧ 0 < (table sel).alt) → 0 < p.haltIdleCycles →
      0 < p.nmiAckCycles → 0 < p.im1AckCycles → 0 < p.im2AckCycles →
      ∃ r, FrameEnds (stepWith p table) budget s (.next r))) ∧
  ∀ (budget : Nat) (s : State), ∃ out, runFrame budget s = some out ∧ FrameEnds stepReturned budget s out

/-- Every instruction completes in every state, and none reads or writes the latches or the cycle total (R142,
R284; decisions D8, D29). The only one that does not leave FATAL alone is a three-prefix sequence: that it
completes, as a next state with FATAL set and PC and the three bytes recorded, is decision D5 of the spec
(R260, R261) in the form of log entries 6, 7 and 8, the model's choice. With any
other map WRITABLE it completes too, and does the same, but that a byte it stores where the map is false is
lost (R8, R60; decision D26). -/
def Obligations.EveryInstructionCompletes : Prop :=
  ∀ (i : Instr) (s : State), ∃ t, exec i s = .next t ∧
    t.intp = s.intp ∧ t.nmip = s.nmip ∧ t.tcyc = s.tcyc ∧
    ((t.fatal = s.fatal ∧ t.fatalInfo = s.fatalInfo ∧
        ∀ a b c d e, exec i { s with intp := a, nmip := b, tcyc := c, fatal := d, fatalInfo := e } =
          .next { t with intp := a, nmip := b, tcyc := c, fatal := d, fatalInfo := e }) ∨
      ∃ b0 b1 b2, IsPrefixByte b0 ∧ IsPrefixByte b1 ∧ IsPrefixByte b2 ∧ encode i = [b0, b1, b2] ∧
        t = { s with fatal := true, fatalInfo := some ⟨s.pc, b0, b1, b2⟩ }) ∧
    ∀ writable : Word → Bool, ∃ u, execWith writable i s = .next u ∧ u = { t with mem := u.mem } ∧
      ∀ x, readByte x u = if writable x = true then readByte x t else readByte x s

/-! ### Invariants -/

/-- Every step keeps the invariant, of the machine's own step and with any other parameters: the memory stays
canonical (log entry 4), FATAL and its record agree (log entry 7), and the flip-flops differ only as IFF1 =
0, IFF2 = 1 (R36, R283, derived). -/
def Obligations.EveryStepKeepsTheInvariant : Prop :=
  (∀ s t : State, s.inv = true → step s = .next t → t.inv = true) ∧
  ∀ (p : Params) (s t : State), s.inv = true → stepOf p s = .next t → t.inv = true

/-- The invariant holds after reset, and in a launch state with any canonical memory. -/
def Obligations.ResetMeetsTheInvariant : Prop :=
  State.reset.inv = true ∧ ∀ mem : Memory, mem.wf = true → (State.launch mem).inv = true

/-- Every host operation keeps the invariant, for any parameters, so every state that steps and host
operations can reach from a launch with any memory meets it (R189, R283, derived; R77). -/
def Obligations.HostOperationsKeepTheInvariant : Prop :=
  ∀ p : Params,
    (∀ (op : HostOp) (s t : State), s.inv = true → hostOp p op s = .next t → t.inv = true) ∧
    ∀ s, Reachable p (machineTable p) s → s.inv = true

/-! ### Whole-machine rules -/

/-- The shadow pairs are written by the two exchanges only, each its own (R26, R27, D32), over all
instructions. That IX, IY and IR are written by LD IX,nn, LD IY,nn and LD I,A only is no rule of
`10_state.md`, which leaves the writers to the table (R46): it rests on the instructions of TREF (R207,
R223, R224, R258, from general knowledge), which the model's own table runs (log entries 1 and 22). -/
def Obligations.ShadowsAndIndexRegistersKeepTheirWriters : Prop :=
  ∀ (i : Instr) (s t : State), exec i s = .next t →
    (i ≠ .exAfAf → t.afx = s.afx) ∧
    (i ≠ .exx → t.bcx = s.bcx ∧ t.dex = s.dex ∧ t.hlx = s.hlx) ∧
    ((∀ nn, i ≠ .ldIxNn nn) → t.ix = s.ix) ∧ ((∀ nn, i ≠ .ldIyNn nn) → t.iy = s.iy) ∧
    (i ≠ .ldIA → t.ir = s.ir)

/-- No step of the machine changes R, and only LD I,A, at PC or supplied by the device in mode 0, changes I.
The sequencer never increments R (R30; decision D10), but any transition function may write it (R46): the
statement rests on the machine's own table, TREF with the synthetic pair (log entry 1, DESIGN CHOICE; R207,
R258, from general knowledge, log entry 22). -/
def Obligations.RIsStorageOnly : Prop :=
  ∀ s t : State, step s = .next t → read8 .r t = read8 .r s ∧
    (read8 .i t ≠ read8 .i s →
      (decode (pcSource s)).instr = .ldIA ∨
      (s.im = .mode0 ∧ s.intp = true ∧ s.iff1 = true ∧ (decode Config.intDevice).instr = .ldIA))

/-- Only DI, EI and RETN write a flip-flop, only IM 0, IM 1 and IM 2 write IM, only HALT writes HALT, over
all instructions (R35 to R38 with TREF's writers, R259). -/
def Obligations.InterruptStateKeepsItsWriters : Prop :=
  ∀ (i : Instr) (s t : State), exec i s = .next t →
    (writesFlipFlops i = false → t.iff1 = s.iff1 ∧ t.iff2 = s.iff2) ∧
    (writesIm i = false → t.im = s.im) ∧ (i ≠ .halt → t.halt = s.halt) ∧
    (i ≠ .retn → (t.iff1 = s.iff1 ∧ t.iff2 = s.iff2) ∨ t.iff1 = t.iff2)

/-- Only the eight instructions whose rule has a flags line write F, over all instructions; interrupt
acceptance in modes 1 and 2, NMI acceptance and the idle leave AF alone (R24). -/
def Obligations.FlagsKeepTheirWriters : Prop :=
  (∀ (i : Instr) (s t : State), exec i s = .next t → writesF i = false → read8 .f t = read8 .f s) ∧
  ∀ (p : Params) (table : Table) (s t : State) (c : Option Nat),
    stepWith p table s = .next ⟨c, t⟩ →
    (s.nmip = true ∨ ((s.intp && s.iff1) = true ∧ s.im ≠ .mode0) ∨
      ((s.intp && s.iff1) = false ∧ s.halt = true)) → t.af = s.af

/-- Only the storing instructions change memory, only stack instructions and loads of SP change SP, only the
transfers move PC from the post-fetch PC, over all instructions (TREF's writers; R174 with D15). -/
def Obligations.MemoryStackAndPcKeepTheirWriters : Prop :=
  ∀ (i : Instr) (s t : State), exec i s = .next t →
    (writesMemory i = false → t.mem = s.mem) ∧ (writesSp i = false → t.sp = s.sp) ∧
    (writesPc i = false → t.pc = s.pc)

/-! ### The instructions of TREF -/

/-- R210 to R213, R215, R217, R218: the 8-bit loads into A and B. A displacement is signed. -/
def Obligations.ByteLoads : Prop :=
  (∀ (s : State) (n : Byte),
    Follows (trefTable Config.params) 62 [0x3E] 1 7 7 [n] (.ldAN n) s { s with af := joinBytes n (loByte s.af) } ∧
    Follows (trefTable Config.params) 6 [0x06] 1 7 7 [n] (.ldBN n) s { s with bc := joinBytes n (loByte s.bc) }) ∧
  (∀ s : State,
    Follows (trefTable Config.params) 120 [0x78] 0 4 4 [] .ldAB s
      { s with af := joinBytes (hiByte s.bc) (loByte s.af) } ∧
    Follows (trefTable Config.params) 71 [0x47] 0 4 4 [] .ldBA s
      { s with bc := joinBytes (hiByte s.af) (loByte s.bc) } ∧
    Follows (trefTable Config.params) 126 [0x7E] 0 7 7 [] .ldAMemHl s
      { s with af := joinBytes (readByte s.hl s) (loByte s.af) }) ∧
  (∀ (s : State) (lo hi : Byte),
    Follows (trefTable Config.params) 58 [0x3A] 2 13 13 [lo, hi] (.ldAMemNn (joinBytes hi lo)) s
      { s with af := joinBytes (readByte (joinBytes hi lo) s) (loByte s.af) }) ∧
  (∀ (s : State) (d : Byte),
    Follows (trefTable Config.params) 382 [0xDD, 0x7E] 1 19 19 [d] (.ldAIxd d) s
      { s with af := joinBytes (readByte (s.ix + sext16 d) s) (loByte s.af) } ∧
    sext16 d = if d.toNat < 128 then BitVec.ofNat 16 d.toNat else BitVec.ofNat 16 (d.toNat + 0xFF00))

/-- R214, R216, R225: the stores of A and of HL, byte by byte over the whole of memory; the word store wraps
at 0xFFFF. -/
def Obligations.Stores : Prop :=
  (∀ s : State, ∃ t, Follows (trefTable Config.params) 119 [0x77] 0 7 7 [] .ldMemHlA s t ∧
    t = { s with mem := t.mem } ∧
    ∀ x, readByte x t = if x = s.hl then hiByte s.af else readByte x s) ∧
  (∀ (s : State) (lo hi : Byte), ∃ t,
    Follows (trefTable Config.params) 50 [0x32] 2 13 13 [lo, hi] (.ldMemNnA (joinBytes hi lo)) s t ∧
    t = { s with mem := t.mem } ∧
    ∀ x, readByte x t = if x = joinBytes hi lo then hiByte s.af else readByte x s) ∧
  (∀ (s : State) (lo hi : Byte), ∃ t,
    Follows (trefTable Config.params) 34 [0x22] 2 16 16 [lo, hi] (.ldMemNnHl (joinBytes hi lo)) s t ∧
    t = { s with mem := t.mem } ∧
    ∀ x, readByte x t =
      if x = joinBytes hi lo + 1 then hiByte s.hl
      else if x = joinBytes hi lo then loByte s.hl
      else readByte x s)

/-- R219 to R224: the 16-bit immediate loads; `DD DD 21` is not LD IX,nn but unmapped (R223). -/
def Obligations.WordImmediateLoads : Prop :=
  (∀ (s : State) (lo hi : Byte),
    Follows (trefTable Config.params) 1 [0x01] 2 10 10 [lo, hi] (.ldBcNn (joinBytes hi lo)) s
      { s with bc := joinBytes hi lo } ∧
    Follows (trefTable Config.params) 17 [0x11] 2 10 10 [lo, hi] (.ldDeNn (joinBytes hi lo)) s
      { s with de := joinBytes hi lo } ∧
    Follows (trefTable Config.params) 33 [0x21] 2 10 10 [lo, hi] (.ldHlNn (joinBytes hi lo)) s
      { s with hl := joinBytes hi lo } ∧
    Follows (trefTable Config.params) 49 [0x31] 2 10 10 [lo, hi] (.ldSpNn (joinBytes hi lo)) s
      { s with sp := joinBytes hi lo } ∧
    Follows (trefTable Config.params) 289 [0xDD, 0x21] 2 14 14 [lo, hi] (.ldIxNn (joinBytes hi lo)) s
      { s with ix := joinBytes hi lo } ∧
    Follows (trefTable Config.params) 545 [0xFD, 0x21] 2 14 14 [lo, hi] (.ldIyNn (joinBytes hi lo)) s
      { s with iy := joinBytes hi lo }) ∧
  decodeSelector (listSource [0xDD, 0xDD, 0x21]) = .ok 1569 3 ∧ ∀ p : Params, trefTable p 1569 = defaultDesc p

/-- R226 to R228: LD HL,(nn) with the low byte at the lower address and the high byte at the next address
modulo 65536, LD SP,HL and EX DE,HL. -/
def Obligations.WordMovesAndExDeHl : Prop :=
  (∀ (s : State) (lo hi : Byte),
    Follows (trefTable Config.params) 42 [0x2A] 2 16 16 [lo, hi] (.ldHlMemNn (joinBytes hi lo)) s
      { s with hl := joinBytes (readByte (joinBytes hi lo + 1) s) (readByte (joinBytes hi lo) s) }) ∧
  (∀ s : State,
    Follows (trefTable Config.params) 249 [0xF9] 0 6 6 [] .ldSpHl s { s with sp := s.hl } ∧
    Follows (trefTable Config.params) 235 [0xEB] 0 4 4 [] .exDeHl s { s with de := s.hl, hl := s.de })

/-- R230, R233, R234: the unconditional jumps; the relative one is from the post-fetch PC with a signed
displacement, modulo 65536. -/
def Obligations.Jumps : Prop :=
  (∀ (s : State) (lo hi : Byte),
    Follows (trefTable Config.params) 195 [0xC3] 2 10 10 [lo, hi] (.jpNn (joinBytes hi lo)) s
      { s with pc := joinBytes hi lo }) ∧
  (∀ s : State, Follows (trefTable Config.params) 233 [0xE9] 0 4 4 [] .jpHl s { s with pc := s.hl }) ∧
  (∀ (s : State) (d : Byte),
    Follows (trefTable Config.params) 24 [0x18] 1 12 12 [d] (.jrE d) s { s with pc := s.pc + sext16 d } ∧
    sext16 d = if d.toNat < 128 then BitVec.ofNat 16 d.toNat else BitVec.ofNat 16 (d.toNat + 0xFF00))

/-- R231, R232, R235, R236, R237: the conditional transfers, taken and not taken, and DJNZ on the new B. A
taken relative jump with displacement 0 leaves PC at the post-fetch PC, so it costs `base`. -/
def Obligations.ConditionalTransfers : Prop :=
  (∀ (s : State) (lo hi : Byte),
    Follows (trefTable Config.params) 194 [0xC2] 2 10 10 [lo, hi] (.jpNzNn (joinBytes hi lo)) s
      { s with pc := if flag .z s = false then joinBytes hi lo else s.pc } ∧
    Follows (trefTable Config.params) 202 [0xCA] 2 10 10 [lo, hi] (.jpZNn (joinBytes hi lo)) s
      { s with pc := if flag .z s = true then joinBytes hi lo else s.pc }) ∧
  (∀ (s : State) (d : Byte),
    Follows (trefTable Config.params) 32 [0x20] 1 7 12 [d] (.jrNzE d) s
      { s with pc := if flag .z s = false then s.pc + sext16 d else s.pc } ∧
    Follows (trefTable Config.params) 40 [0x28] 1 7 12 [d] (.jrZE d) s
      { s with pc := if flag .z s = true then s.pc + sext16 d else s.pc } ∧
    Follows (trefTable Config.params) 16 [0x10] 1 8 13 [d] (.djnzE d) s
      { s with bc := joinBytes (hiByte s.bc - 1) (loByte s.bc),
               pc := if hiByte s.bc - 1 = 0 then s.pc else s.pc + sext16 d }) ∧
  sext16 0 = 0

/-- R238, R240: CALL nn and the eight restarts push the post-fetch PC and go to the target. -/
def Obligations.CallsAndRestarts : Prop :=
  (∀ (s : State) (lo hi : Byte), ∃ t,
    Follows (trefTable Config.params) 205 [0xCD] 2 17 17 [lo, hi] (.callNn (joinBytes hi lo)) s t ∧
    t = { s with sp := s.sp - 2, pc := joinBytes hi lo, mem := t.mem } ∧ Pushed Config.writable s.pc s t) ∧
  ∀ (s : State) (entry : Instr × Byte × Word),
    entry ∈ [(Instr.rst00, (0xC7 : Byte), (0x0000 : Word)), (.rst08, 0xCF, 0x0008),
      (.rst10, 0xD7, 0x0010), (.rst18, 0xDF, 0x0018), (.rst20, 0xE7, 0x0020), (.rst28, 0xEF, 0x0028),
      (.rst30, 0xF7, 0x0030), (.rst38, 0xFF, 0x0038)] →
    ∃ t, Follows (trefTable Config.params) entry.2.1.toNat [entry.2.1] 0 11 11 [] entry.1 s t ∧
      t = { s with sp := s.sp - 2, pc := entry.2.2, mem := t.mem } ∧ Pushed Config.writable s.pc s t

/-- R242 to R244: the pushes. -/
def Obligations.Pushes : Prop :=
  ∀ s : State,
    (∃ t, Follows (trefTable Config.params) 197 [0xC5] 0 11 11 [] .pushBc s t ∧
      t = { s with sp := s.sp - 2, mem := t.mem } ∧ Pushed Config.writable s.bc s t) ∧
    (∃ t, Follows (trefTable Config.params) 229 [0xE5] 0 11 11 [] .pushHl s t ∧
      t = { s with sp := s.sp - 2, mem := t.mem } ∧ Pushed Config.writable s.hl s t) ∧
    (∃ t, Follows (trefTable Config.params) 245 [0xF5] 0 11 11 [] .pushAf s t ∧
      t = { s with sp := s.sp - 2, mem := t.mem } ∧ Pushed Config.writable s.af s t)

/-- R209, R239, R245 to R247: the pops, POP AF taking all eight bits of F from the popped low byte; RET,
which pops PC and leaves the flip-flops; RETN, which pops PC and copies IFF2 into IFF1. -/
def Obligations.PopsAndReturns : Prop :=
  ∀ s : State,
    Follows (trefTable Config.params) 193 [0xC1] 0 10 10 [] .popBc s
      { s with bc := joinBytes (readByte (s.sp + 1) s) (readByte s.sp s), sp := s.sp + 2 } ∧
    Follows (trefTable Config.params) 225 [0xE1] 0 10 10 [] .popHl s
      { s with hl := joinBytes (readByte (s.sp + 1) s) (readByte s.sp s), sp := s.sp + 2 } ∧
    Follows (trefTable Config.params) 241 [0xF1] 0 10 10 [] .popAf s
      { s with af := joinBytes (readByte (s.sp + 1) s) (readByte s.sp s), sp := s.sp + 2 } ∧
    Follows (trefTable Config.params) 201 [0xC9] 0 10 10 [] .ret s
      { s with pc := joinBytes (readByte (s.sp + 1) s) (readByte s.sp s), sp := s.sp + 2 } ∧
    Follows (trefTable Config.params) 837 [0xED, 0x45] 0 14 14 [] .retn s
      { s with pc := joinBytes (readByte (s.sp + 1) s) (readByte s.sp s), sp := s.sp + 2,
               iff1 := s.iff2 }

/-- R248 to R251: the 16-bit increments and decrements wrap and write no flag. -/
def Obligations.WordIncrementsAndDecrements : Prop :=
  ∀ s : State,
    Follows (trefTable Config.params) 3 [0x03] 0 6 6 [] .incBc s
      { s with bc := BitVec.ofNat 16 ((s.bc.toNat + 1) % 65536) } ∧
    Follows (trefTable Config.params) 35 [0x23] 0 6 6 [] .incHl s
      { s with hl := BitVec.ofNat 16 ((s.hl.toNat + 1) % 65536) } ∧
    Follows (trefTable Config.params) 11 [0x0B] 0 6 6 [] .decBc s
      { s with bc := BitVec.ofNat 16 ((s.bc.toNat + 65535) % 65536) } ∧
    Follows (trefTable Config.params) 43 [0x2B] 0 6 6 [] .decHl s
      { s with hl := BitVec.ofNat 16 ((s.hl.toNat + 65535) % 65536) }

/-- R252, R253: INC A and DEC B, the result and every flag; CF is kept. -/
def Obligations.ByteIncrementAndDecrement : Prop :=
  ∀ s : State,
    (∃ t, Follows (trefTable Config.params) 60 [0x3C] 0 4 4 [] .incA s t ∧ t = { s with af := t.af } ∧
      read8 .a t = read8 .a s + 1 ∧ SzyxOf (read8 .a s + 1) t ∧
      flag .hf t = decide ((read8 .a s).toNat % 16 = 15) ∧ flag .pv t = decide (read8 .a s = 0x7F) ∧
      flag .n t = false ∧ flag .cf t = flag .cf s) ∧
    (∃ t, Follows (trefTable Config.params) 5 [0x05] 0 4 4 [] .decB s t ∧ t = { s with af := t.af, bc := t.bc } ∧
      read8 .b t = read8 .b s - 1 ∧ read8 .c t = read8 .c s ∧ read8 .a t = read8 .a s ∧
      SzyxOf (read8 .b s - 1) t ∧
      flag .hf t = decide ((read8 .b s).toNat % 16 = 0) ∧ flag .pv t = decide (read8 .b s = 0x80) ∧
      flag .n t = true ∧ flag .cf t = flag .cf s)

/-- R254: ADD A,B, the result and every flag; PV is signed overflow. -/
def Obligations.AddSetsEveryFlag : Prop :=
  ∀ s : State, ∃ t, Follows (trefTable Config.params) 128 [0x80] 0 4 4 [] .addAB s t ∧ t = { s with af := t.af } ∧
    (read8 .a t).toNat = ((read8 .a s).toNat + (read8 .b s).toNat) % 256 ∧ SzyxOf (read8 .a t) t ∧
    flag .hf t = decide ((read8 .a s).toNat % 16 + (read8 .b s).toNat % 16 > 15) ∧
    flag .pv t =
      decide (((read8 .a s ^^^ read8 .a t) &&& (read8 .b s ^^^ read8 .a t) &&& 0x80) ≠ 0) ∧
    flag .pv t = decide ((read8 .a s).toInt + (read8 .b s).toInt ≠ (read8 .a t).toInt) ∧
    flag .n t = false ∧ flag .cf t = decide ((read8 .a s).toNat + (read8 .b s).toNat > 255)

/-- R255, R256: XOR A, and RLC B with every bit of the result and every flag; parity counts 1 bits. -/
def Obligations.XorAndRotate : Prop :=
  ∀ s : State,
    Follows (trefTable Config.params) 175 [0xAF] 0 4 4 [] .xorA s { s with af := 0x0044 } ∧
    ∃ t, Follows (trefTable Config.params) 1024 [0xCB, 0x00] 0 8 8 [] .rlcB s t ∧
      t = { s with af := t.af, bc := t.bc } ∧
      read8 .c t = read8 .c s ∧ read8 .a t = read8 .a s ∧
      (∀ k, k < 7 → (read8 .b t).getLsbD (k + 1) = (read8 .b s).getLsbD k) ∧
      (read8 .b t).getLsbD 0 = (read8 .b s).getLsbD 7 ∧
      SzyxOf (read8 .b t) t ∧
      flag .pv t =
        decide (((List.range 8).filter fun k => (read8 .b t).getLsbD k).length % 2 = 0) ∧
      flag .cf t = (read8 .b s).getLsbD 7 ∧ flag .hf t = false ∧ flag .n t = false

/-- R208: LD A,I shows IFF2 in PV. -/
def Obligations.LoadAFromIShowsIff2 : Prop :=
  ∀ s : State, ∃ t, Follows (trefTable Config.params) 855 [0xED, 0x57] 0 9 9 [] .ldAI s t ∧ t = { s with af := t.af } ∧
    read8 .a t = read8 .i s ∧ SzyxOf (read8 .i s) t ∧ flag .pv t = s.iff2 ∧ flag .cf t = flag .cf s ∧
    flag .hf t = false ∧ flag .n t = false

/-- R202 to R207: DI, EI, the three mode instructions and LD I,A, which the four collision sequences reach
too; the enable of EI takes effect at the very next step boundary. -/
def Obligations.InterruptControl : Prop :=
  (∀ s : State,
    Follows (trefTable Config.params) 243 [0xF3] 0 4 4 [] .di s { s with iff1 := false, iff2 := false } ∧
    Follows (trefTable Config.params) 251 [0xFB] 0 4 4 [] .ei s { s with iff1 := true, iff2 := true } ∧
    Follows (trefTable Config.params) 838 [0xED, 0x46] 0 8 8 [] .im0 s { s with im := .mode0 } ∧
    Follows (trefTable Config.params) 854 [0xED, 0x56] 0 8 8 [] .im1 s { s with im := .mode1 } ∧
    Follows (trefTable Config.params) 862 [0xED, 0x5E] 0 8 8 [] .im2 s { s with im := .mode2 } ∧
    Follows (trefTable Config.params) 839 [0xED, 0x47] 0 9 9 [] .ldIA s
      { s with ir := joinBytes (hiByte s.af) (loByte s.ir) }) ∧
  (∀ p : Prefix, decodeSelector (listSource [p.byte, 0xED, 0x47]) = .ok 839 3) ∧
  (∀ (p : Params) (table : Table) (s u : State), exec .ei s = .next u →
    u.fatal = false → u.nmip = false → u.intp = true → u.im = .mode1 →
    ∃ v, stepWith p table u = .next ⟨some p.im1AckCycles, v⟩ ∧ v.pc = p.im1Vector)

/-- NOP, HALT, EXX and EX AF,AF' (R170 to R173; encodings and costs from general knowledge, decisions D6,
D9, D32). NOP is the default descriptor for any parameters, cost and all: its cost is `DEFAULT_CYCLES`
(log entry 14). -/
def Obligations.NamedInstructions : Prop :=
  (∀ (p : Params) (ops : List Byte) (s : State),
    (trefTable p 0).n = 0 ∧ (trefTable p 0).base = p.defaultCycles ∧
    (trefTable p 0).alt = p.defaultCycles ∧ (trefTable p 0).exec ops s = s) ∧
  ∀ s : State,
    Follows (trefTable Config.params) 0 [0x00] 0 4 4 [] .nop s s ∧
    Follows (trefTable Config.params) 118 [0x76] 0 4 4 [] .halt s { s with halt := true } ∧
    Follows (trefTable Config.params) 217 [0xD9] 0 4 4 [] .exx s
      { s with bc := s.bcx, bcx := s.bc, de := s.dex, dex := s.de, hl := s.hlx, hlx := s.hl } ∧
    Follows (trefTable Config.params) 8 [0x08] 0 4 4 [] .exAfAf s { s with af := s.afx, afx := s.af }

/-- The synthetic pair (R175; decision D37; log entry 2): one with conditional-jump semantics, one without;
the first costs 12 only when PC moved, the second always 7. -/
def Obligations.SyntheticPairShowsTheCostRule : Prop :=
  ∀ (s : State) (d : Byte),
    Follows (machineTable Config.params) 3326 [0xCB, 0xCB, 0xFE] 1 7 12 [d] (.synJcond d) s
      { s with pc := if flag .z s = false then s.pc + sext16 d else s.pc } ∧
    Follows (machineTable Config.params) 3327 [0xCB, 0xCB, 0xFF] 1 7 12 [d] (.synPlain d) s s ∧
    ∀ p : Params, trefTable p 3326 = defaultDesc p ∧ trefTable p 3327 = defaultDesc p

/-- Every unmapped word executes as the default no-operation (R89): no operand bytes, no state change except
PC, advanced by `len`, and the cycle total; all 21 patterns, for any parameters. Derived, because clauses
rest on decisions of the spec and choices of the model: D12 (the step drops a masked request), D6 with log
entry 14 (4 cycles), D3 (a collision counts its discarded prefix, so its length is 3) and log entry 11
(which words a pattern constructor stands for). -/
def Obligations.UnmappedWordsAreNoOperations : Prop :=
  ∀ o : Byte,
    IsDefaultNoOp (.pfxNone o) ∧ IsDefaultNoOp (.pfxDd o) ∧ IsDefaultNoOp (.pfxFd o) ∧
    IsDefaultNoOp (.pfxEd o) ∧ IsDefaultNoOp (.pfxCb o) ∧ IsDefaultNoOp (.pfxDdDd o) ∧
    IsDefaultNoOp (.pfxDdFd o) ∧ IsDefaultNoOp (.pfxDdCb o) ∧ IsDefaultNoOp (.pfxFdDd o) ∧
    IsDefaultNoOp (.pfxFdFd o) ∧ IsDefaultNoOp (.pfxFdCb o) ∧ IsDefaultNoOp (.pfxEdDd o) ∧
    IsDefaultNoOp (.pfxEdFd o) ∧ IsDefaultNoOp (.pfxEdCb o) ∧ IsDefaultNoOp (.pfxCbDd o) ∧
    IsDefaultNoOp (.pfxCbFd o) ∧ IsDefaultNoOp (.pfxCbCb o) ∧ IsDefaultNoOp (.pfxDdEd o) ∧
    IsDefaultNoOp (.pfxFdEd o) ∧ IsDefaultNoOp (.pfxEdEd o) ∧ IsDefaultNoOp (.pfxCbEd o)

/-- The 64 three-prefix sequences (R88, R134; what the error leaves is decision D5, log entries 6 to 8): each
completes by raising `FatalDecode`: FATAL and the recorded information, nothing else. -/
def Obligations.ThreePrefixInstructionsRaiseFatalDecode : Prop :=
  IsFatal .pfxFatalDdDdDd 0xDD 0xDD 0xDD ∧ IsFatal .pfxFatalDdDdFd 0xDD 0xDD 0xFD ∧
  IsFatal .pfxFatalDdDdEd 0xDD 0xDD 0xED ∧ IsFatal .pfxFatalDdDdCb 0xDD 0xDD 0xCB ∧
  IsFatal .pfxFatalDdFdDd 0xDD 0xFD 0xDD ∧ IsFatal .pfxFatalDdFdFd 0xDD 0xFD 0xFD ∧
  IsFatal .pfxFatalDdFdEd 0xDD 0xFD 0xED ∧ IsFatal .pfxFatalDdFdCb 0xDD 0xFD 0xCB ∧
  IsFatal .pfxFatalDdEdDd 0xDD 0xED 0xDD ∧ IsFatal .pfxFatalDdEdFd 0xDD 0xED 0xFD ∧
  IsFatal .pfxFatalDdEdEd 0xDD 0xED 0xED ∧ IsFatal .pfxFatalDdEdCb 0xDD 0xED 0xCB ∧
  IsFatal .pfxFatalDdCbDd 0xDD 0xCB 0xDD ∧ IsFatal .pfxFatalDdCbFd 0xDD 0xCB 0xFD ∧
  IsFatal .pfxFatalDdCbEd 0xDD 0xCB 0xED ∧ IsFatal .pfxFatalDdCbCb 0xDD 0xCB 0xCB ∧
  IsFatal .pfxFatalFdDdDd 0xFD 0xDD 0xDD ∧ IsFatal .pfxFatalFdDdFd 0xFD 0xDD 0xFD ∧
  IsFatal .pfxFatalFdDdEd 0xFD 0xDD 0xED ∧ IsFatal .pfxFatalFdDdCb 0xFD 0xDD 0xCB ∧
  IsFatal .pfxFatalFdFdDd 0xFD 0xFD 0xDD ∧ IsFatal .pfxFatalFdFdFd 0xFD 0xFD 0xFD ∧
  IsFatal .pfxFatalFdFdEd 0xFD 0xFD 0xED ∧ IsFatal .pfxFatalFdFdCb 0xFD 0xFD 0xCB ∧
  IsFatal .pfxFatalFdEdDd 0xFD 0xED 0xDD ∧ IsFatal .pfxFatalFdEdFd 0xFD 0xED 0xFD ∧
  IsFatal .pfxFatalFdEdEd 0xFD 0xED 0xED ∧ IsFatal .pfxFatalFdEdCb 0xFD 0xED 0xCB ∧
  IsFatal .pfxFatalFdCbDd 0xFD 0xCB 0xDD ∧ IsFatal .pfxFatalFdCbFd 0xFD 0xCB 0xFD ∧
  IsFatal .pfxFatalFdCbEd 0xFD 0xCB 0xED ∧ IsFatal .pfxFatalFdCbCb 0xFD 0xCB 0xCB ∧
  IsFatal .pfxFatalEdDdDd 0xED 0xDD 0xDD ∧ IsFatal .pfxFatalEdDdFd 0xED 0xDD 0xFD ∧
  IsFatal .pfxFatalEdDdEd 0xED 0xDD 0xED ∧ IsFatal .pfxFatalEdDdCb 0xED 0xDD 0xCB ∧
  IsFatal .pfxFatalEdFdDd 0xED 0xFD 0xDD ∧ IsFatal .pfxFatalEdFdFd 0xED 0xFD 0xFD ∧
  IsFatal .pfxFatalEdFdEd 0xED 0xFD 0xED ∧ IsFatal .pfxFatalEdFdCb 0xED 0xFD 0xCB ∧
  IsFatal .pfxFatalEdEdDd 0xED 0xED 0xDD ∧ IsFatal .pfxFatalEdEdFd 0xED 0xED 0xFD ∧
  IsFatal .pfxFatalEdEdEd 0xED 0xED 0xED ∧ IsFatal .pfxFatalEdEdCb 0xED 0xED 0xCB ∧
  IsFatal .pfxFatalEdCbDd 0xED 0xCB 0xDD ∧ IsFatal .pfxFatalEdCbFd 0xED 0xCB 0xFD ∧
  IsFatal .pfxFatalEdCbEd 0xED 0xCB 0xED ∧ IsFatal .pfxFatalEdCbCb 0xED 0xCB 0xCB ∧
  IsFatal .pfxFatalCbDdDd 0xCB 0xDD 0xDD ∧ IsFatal .pfxFatalCbDdFd 0xCB 0xDD 0xFD ∧
  IsFatal .pfxFatalCbDdEd 0xCB 0xDD 0xED ∧ IsFatal .pfxFatalCbDdCb 0xCB 0xDD 0xCB ∧
  IsFatal .pfxFatalCbFdDd 0xCB 0xFD 0xDD ∧ IsFatal .pfxFatalCbFdFd 0xCB 0xFD 0xFD ∧
  IsFatal .pfxFatalCbFdEd 0xCB 0xFD 0xED ∧ IsFatal .pfxFatalCbFdCb 0xCB 0xFD 0xCB ∧
  IsFatal .pfxFatalCbEdDd 0xCB 0xED 0xDD ∧ IsFatal .pfxFatalCbEdFd 0xCB 0xED 0xFD ∧
  IsFatal .pfxFatalCbEdEd 0xCB 0xED 0xED ∧ IsFatal .pfxFatalCbEdCb 0xCB 0xED 0xCB ∧
  IsFatal .pfxFatalCbCbDd 0xCB 0xCB 0xDD ∧ IsFatal .pfxFatalCbCbFd 0xCB 0xCB 0xFD ∧
  IsFatal .pfxFatalCbCbEd 0xCB 0xCB 0xED ∧ IsFatal .pfxFatalCbCbCb 0xCB 0xCB 0xCB

end Statements
end

