-- ==== Sys2Proof/Laws/Decode.lean ====
section
/-! SUPPORT. What the decoder's shared functions can do: the prefix test, the scan, the search of the
table's rows, and the bytes of an operand. -/

namespace Sys2Proof

open Sys2Proof.Machine (hiByte loByte joinBytes)

/-- The prefix test (`40_decoder.md` R101) finds exactly the byte of each prefix. -/
theorem prefixOf_eq_some {b : Byte} {p : Prefix} : prefixOf b = some p ↔ b = p.byte := by
  cases p <;> revert b <;> decide

@[simp] theorem prefixOf_byte (p : Prefix) : prefixOf p.byte = some p := prefixOf_eq_some.mpr rfl

/-- A byte is no prefix exactly when it is an allowed final byte (`30_encoding.md` R84). -/
theorem prefixOf_eq_none {b : Byte} : prefixOf b = none ↔ finalByteOk b = true := by
  revert b
  decide

/-- A byte is no prefix exactly when its rank is 0 (`40_decoder.md` R102). -/
theorem rank_eq_zero {b : Byte} : rank b = 0 ↔ prefixOf b = none := by
  revert b
  decide

/-- Every outcome of the scan (`40_decoder.md` R103, R104), with the bytes that lead to it. -/
theorem scan_cases (src : Nat → Byte) :
    (prefixOf (src 0) = none ∧ scan src = .opcode .bare (src 0)) ∨
    (∃ p, src 0 = p.byte ∧ prefixOf (src 1) = none ∧ scan src = .opcode (.one p) (src 1)) ∨
    (∃ p q, src 0 = p.byte ∧ src 1 = q.byte ∧ prefixOf (src 2) = none ∧
      scan src = .opcode (.two p q) (src 2)) ∨
    (∃ p q r, src 0 = p.byte ∧ src 1 = q.byte ∧ src 2 = r.byte ∧ scan src = .fatal p q r) := by
  unfold scan
  split
  · next h => exact .inl ⟨h, rfl⟩
  · next p hp =>
    have e0 := prefixOf_eq_some.mp hp
    split
    · next h => exact .inr (.inl ⟨p, e0, h, rfl⟩)
    · next q hq =>
      have e1 := prefixOf_eq_some.mp hq
      split
      · next h => exact .inr (.inr (.inl ⟨p, q, e0, e1, h, rfl⟩))
      · next r hr => exact .inr (.inr (.inr ⟨p, q, r, e0, e1, prefixOf_eq_some.mp hr, rfl⟩))

/-- The row found is one of the rows, and it has the selector asked for. -/
theorem findRow_some {rows : List Row} {sel : Nat} {row : Row} (h : findRow rows sel = some row) :
    row ∈ rows ∧ row.sel = sel := by
  induction rows with
  | nil => cases h
  | cons head rest ih =>
    simp only [findRow] at h
    split at h
    · next e => cases h; exact ⟨List.mem_cons_self, by simpa using e⟩
    · exact ⟨List.mem_cons_of_mem _ (ih h).1, (ih h).2⟩

/-- No row is found exactly when no row has the selector. -/
theorem findRow_none {rows : List Row} {sel : Nat} :
    findRow rows sel = none ↔ ∀ row ∈ rows, row.sel ≠ sel := by
  induction rows with
  | nil => simp [findRow]
  | cons head rest ih =>
    simp only [findRow]
    split
    · next e => simp [beq_iff_eq.mp e]
    · next e => simp [ih, beq_iff_eq.not.mp e]

/-- The selectors `Instr.wellFormed` keeps from the pattern constructors are those of the table. -/
theorem machineRows_selectors : machineRows.map Row.sel = mappedSelectors := rfl

/-- A selector is unmapped exactly when it is not listed. -/
theorem findRow_machineRows_none {sel : Nat} :
    findRow machineRows sel = none ↔ mappedSelectors.contains sel = false := by
  rw [findRow_none, ← machineRows_selectors]
  simp [List.contains_eq_mem]

@[simp] theorem operandBytes_length (src : Nat → Byte) (len n : Nat) :
    (operandBytes src len n).length = n := by
  simp [operandBytes]

@[simp] theorem operandBytes_zero (src : Nat → Byte) (len : Nat) : operandBytes src len 0 = [] := rfl

@[simp] theorem operandBytes_one (src : Nat → Byte) (len : Nat) :
    operandBytes src len 1 = [src len] := rfl

@[simp] theorem operandBytes_two (src : Nat → Byte) (len : Nat) :
    operandBytes src len 2 = [src len, src (len + 1)] := rfl

end Sys2Proof
end

