-- ==== Sys2Proof/Laws/Memory.lean ====
section
/-! SUPPORT. The laws of memory: a read after a write, the frame of a write, and the canonical form
that every memory operation keeps. -/

namespace Sys2Proof.Machine

/-! ### Reading after writing -/

theorem memGet_memErase_same (m : Memory) (a : Nat) : memGet (memErase m a) a = unlistedByte := by
  induction m with
  | nil => rfl
  | cons c rest ih =>
    obtain ⟨b, w⟩ := c
    by_cases h : b = a
    · simpa [memErase, h] using ih
    · simpa [memErase, memGet, h] using ih

theorem memGet_memErase_other (m : Memory) {a x : Nat} (hx : x ≠ a) :
    memGet (memErase m a) x = memGet m x := by
  induction m with
  | nil => rfl
  | cons c rest ih =>
    obtain ⟨b, w⟩ := c
    by_cases h : b = a
    · simpa [memErase, memGet, h, Ne.symm hx] using ih
    · simp only [memErase, if_neg h, memGet, ih]

theorem memGet_memInsert_same (m : Memory) (a : Nat) (v : Byte)
    (absent : ∀ c ∈ m, c.1 ≠ a) : memGet (memInsert m a v) a = v := by
  induction m with
  | nil => simp [memInsert, memGet]
  | cons c rest ih =>
    obtain ⟨b, w⟩ := c
    have hb : b ≠ a := absent (b, w) List.mem_cons_self
    by_cases h : a < b
    · simp [memInsert, memGet, h]
    · simpa [memInsert, memGet, h, hb] using ih fun c hc => absent c (List.mem_cons_of_mem _ hc)

theorem memGet_memInsert_other (m : Memory) {a x : Nat} (v : Byte) (hx : x ≠ a) :
    memGet (memInsert m a v) x = memGet m x := by
  induction m with
  | nil => simp [memInsert, memGet, Ne.symm hx]
  | cons c rest ih =>
    obtain ⟨b, w⟩ := c
    by_cases h : a < b
    · simp [memInsert, memGet, h, Ne.symm hx]
    · simp only [memInsert, if_neg h, memGet, ih]

theorem memErase_absent (m : Memory) (a : Nat) : ∀ c ∈ memErase m a, c.1 ≠ a := by
  induction m with
  | nil => intro c hc; cases hc
  | cons c rest ih =>
    obtain ⟨b, w⟩ := c
    by_cases h : b = a
    · simpa [memErase, h] using ih
    · simp only [memErase, h, if_false, List.mem_cons]
      rintro c (rfl | hc)
      · exact h
      · exact ih c hc

/-- A read after a write to the same address gives the byte written, in every list. -/
@[simp] theorem memGet_memPut_same (m : Memory) (a : Nat) (v : Byte) : memGet (memPut m a v) a = v := by
  unfold memPut
  split
  · next h => rw [memGet_memErase_same, h]
  · exact memGet_memInsert_same _ _ _ (memErase_absent m a)

/-- A write leaves every other address alone, in every list. -/
theorem memGet_memPut_other (m : Memory) {a x : Nat} (v : Byte) (hx : x ≠ a) :
    memGet (memPut m a v) x = memGet m x := by
  unfold memPut
  split
  · exact memGet_memErase_other m hx
  · rw [memGet_memInsert_other _ _ hx, memGet_memErase_other m hx]

/-! ### The canonical form -/

/-- A canonical list from `low` is canonical from any lower bound. -/
theorem memWfFrom_mono {low low' : Nat} (h : low' ≤ low) {m : Memory} (hm : memWfFrom low m = true) :
    memWfFrom low' m = true := by
  cases m with
  | nil => rfl
  | cons c rest =>
    simp only [memWfFrom, Bool.and_eq_true, decide_eq_true_eq] at hm ⊢
    exact ⟨⟨⟨by omega, hm.1.1.2⟩, hm.1.2⟩, hm.2⟩

theorem memErase_wf {m : Memory} {low : Nat} (a : Nat) (hm : memWfFrom low m = true) :
    memWfFrom low (memErase m a) = true := by
  induction m generalizing low with
  | nil => rfl
  | cons c rest ih =>
    obtain ⟨b, w⟩ := c
    simp only [memWfFrom, Bool.and_eq_true, decide_eq_true_eq] at hm
    by_cases h : b = a
    · simp only [memErase, h, if_true]
      exact memWfFrom_mono (by omega) (ih hm.2)
    · simp only [memErase, h, if_false, memWfFrom, Bool.and_eq_true, decide_eq_true_eq]
      exact ⟨hm.1, ih hm.2⟩

theorem memInsert_wf {m : Memory} {low a : Nat} {v : Byte} (hlow : low ≤ a) (ha : a < 65536)
    (hv : v ≠ unlistedByte) (absent : ∀ c ∈ m, c.1 ≠ a) (hm : memWfFrom low m = true) :
    memWfFrom low (memInsert m a v) = true := by
  induction m generalizing low with
  | nil => simp [memInsert, memWfFrom, hlow, ha, hv]
  | cons c rest ih =>
    obtain ⟨b, w⟩ := c
    have hb : b ≠ a := absent (b, w) List.mem_cons_self
    simp only [memWfFrom, Bool.and_eq_true, decide_eq_true_eq] at hm
    by_cases h : a < b
    · simp only [memInsert, h, if_true, memWfFrom, Bool.and_eq_true, decide_eq_true_eq]
      exact ⟨⟨⟨hlow, ha⟩, hv⟩, ⟨⟨h, hm.1.1.2⟩, hm.1.2⟩, hm.2⟩
    · simp only [memInsert, h, if_false, memWfFrom, Bool.and_eq_true, decide_eq_true_eq]
      exact ⟨hm.1, ih (by omega) (fun c hc => absent c (List.mem_cons_of_mem _ hc)) hm.2⟩

/-- A write to an address of the space keeps the canonical form. -/
theorem memPut_wf {m : Memory} {a : Nat} (v : Byte) (ha : a < 65536) (hm : m.wf = true) :
    (memPut m a v).wf = true := by
  unfold memPut Memory.wf
  split
  · exact memErase_wf a hm
  · next hv =>
    exact memInsert_wf (Nat.zero_le _) ha hv (memErase_absent m a) (memErase_wf a hm)

/-- Reset's memory has the canonical form. -/
theorem reset_mem_wf : State.reset.mem.wf = true := rfl

/-! ### Bytes and words of the state -/

/-- `readByte` sees only the memory. -/
theorem readByte_congr {s t : State} (h : s.mem = t.mem) (a : Word) : readByte a s = readByte a t := by
  simp [readByte, h]

/-- R60 (b), (c): a write where the map is true is read back, a write where it is false is lost, and no
other address changes. -/
theorem readByte_storeByte (writable : Word → Bool) (a x : Word) (v : Byte) (s : State) :
    readByte x (storeByte writable a v s) =
      if writable a ∧ x = a then v else readByte x s := by
  simp only [readByte, storeByte]
  by_cases hw : writable a = true
  · by_cases hx : x = a
    · subst hx; simp [hw]
    · have hn : x.toNat ≠ a.toNat := fun h => hx (BitVec.eq_of_toNat_eq h)
      simp [hw, hx, memGet_memPut_other _ v hn]
  · simp [hw]

/-- A byte written through the bus of the machine is read back, and no other address changes. -/
theorem readByte_writeByte (a x : Word) (v : Byte) (s : State) :
    readByte x (writeByte a v s) = if x = a then v else readByte x s := by
  simp [writeByte, readByte_storeByte, Config.writable]

/-- Storing a byte keeps the canonical form. -/
theorem storeByte_wf (writable : Word → Bool) (a : Word) (v : Byte) {s : State}
    (h : s.mem.wf = true) : (storeByte writable a v s).mem.wf = true := by
  simp only [storeByte]
  split
  · exact memPut_wf v a.isLt h
  · exact h

theorem writeByte_wf (a : Word) (v : Byte) {s : State} (h : s.mem.wf = true) :
    (writeByte a v s).mem.wf = true := storeByte_wf _ a v h

theorem writeWordWith_wf (writable : Word → Bool) (a v : Word) {s : State} (h : s.mem.wf = true) :
    (writeWordWith writable a v s).mem.wf = true := storeByte_wf _ _ _ (storeByte_wf _ _ _ h)

theorem pushByte_wf (writable : Word → Bool) (v : Byte) {s : State} (h : s.mem.wf = true) :
    (pushByte writable v s).mem.wf = true :=
  storeByte_wf writable (s.sp - 1) v (s := { s with sp := s.sp - 1 }) h

theorem push16With_wf (writable : Word → Bool) (v : Word) {s : State} (h : s.mem.wf = true) :
    (push16With writable v s).mem.wf = true := pushByte_wf _ _ (pushByte_wf _ _ h)

end Sys2Proof.Machine
end

