-- ==== Sys2Proof/Laws/State.lean ====
section
/-! SUPPORT. The small lemmas of State: one per field per update, each true by `rfl`, so that no later
proof unfolds a record update. -/

namespace Sys2Proof.Machine

/-! ### storeByte -/

@[simp] theorem storeByte_af (w : Word → Bool) (a : Word) (v : Byte) (s : State) :
    (storeByte w a v s).af = s.af := rfl
@[simp] theorem storeByte_bc (w : Word → Bool) (a : Word) (v : Byte) (s : State) :
    (storeByte w a v s).bc = s.bc := rfl
@[simp] theorem storeByte_de (w : Word → Bool) (a : Word) (v : Byte) (s : State) :
    (storeByte w a v s).de = s.de := rfl
@[simp] theorem storeByte_hl (w : Word → Bool) (a : Word) (v : Byte) (s : State) :
    (storeByte w a v s).hl = s.hl := rfl
@[simp] theorem storeByte_afx (w : Word → Bool) (a : Word) (v : Byte) (s : State) :
    (storeByte w a v s).afx = s.afx := rfl
@[simp] theorem storeByte_bcx (w : Word → Bool) (a : Word) (v : Byte) (s : State) :
    (storeByte w a v s).bcx = s.bcx := rfl
@[simp] theorem storeByte_dex (w : Word → Bool) (a : Word) (v : Byte) (s : State) :
    (storeByte w a v s).dex = s.dex := rfl
@[simp] theorem storeByte_hlx (w : Word → Bool) (a : Word) (v : Byte) (s : State) :
    (storeByte w a v s).hlx = s.hlx := rfl
@[simp] theorem storeByte_ix (w : Word → Bool) (a : Word) (v : Byte) (s : State) :
    (storeByte w a v s).ix = s.ix := rfl
@[simp] theorem storeByte_iy (w : Word → Bool) (a : Word) (v : Byte) (s : State) :
    (storeByte w a v s).iy = s.iy := rfl
@[simp] theorem storeByte_ir (w : Word → Bool) (a : Word) (v : Byte) (s : State) :
    (storeByte w a v s).ir = s.ir := rfl
@[simp] theorem storeByte_pc (w : Word → Bool) (a : Word) (v : Byte) (s : State) :
    (storeByte w a v s).pc = s.pc := rfl
@[simp] theorem storeByte_sp (w : Word → Bool) (a : Word) (v : Byte) (s : State) :
    (storeByte w a v s).sp = s.sp := rfl
@[simp] theorem storeByte_iff1 (w : Word → Bool) (a : Word) (v : Byte) (s : State) :
    (storeByte w a v s).iff1 = s.iff1 := rfl
@[simp] theorem storeByte_iff2 (w : Word → Bool) (a : Word) (v : Byte) (s : State) :
    (storeByte w a v s).iff2 = s.iff2 := rfl
@[simp] theorem storeByte_im (w : Word → Bool) (a : Word) (v : Byte) (s : State) :
    (storeByte w a v s).im = s.im := rfl
@[simp] theorem storeByte_halt (w : Word → Bool) (a : Word) (v : Byte) (s : State) :
    (storeByte w a v s).halt = s.halt := rfl
@[simp] theorem storeByte_intp (w : Word → Bool) (a : Word) (v : Byte) (s : State) :
    (storeByte w a v s).intp = s.intp := rfl
@[simp] theorem storeByte_nmip (w : Word → Bool) (a : Word) (v : Byte) (s : State) :
    (storeByte w a v s).nmip = s.nmip := rfl
@[simp] theorem storeByte_tcyc (w : Word → Bool) (a : Word) (v : Byte) (s : State) :
    (storeByte w a v s).tcyc = s.tcyc := rfl
@[simp] theorem storeByte_fatal (w : Word → Bool) (a : Word) (v : Byte) (s : State) :
    (storeByte w a v s).fatal = s.fatal := rfl
@[simp] theorem storeByte_fatalInfo (w : Word → Bool) (a : Word) (v : Byte) (s : State) :
    (storeByte w a v s).fatalInfo = s.fatalInfo := rfl
@[simp] theorem storeByte_mem (w : Word → Bool) (a : Word) (v : Byte) (s : State) :
    (storeByte w a v s).mem = if w a then memPut s.mem a.toNat v else s.mem := rfl

/-! ### writeByte -/

@[simp] theorem writeByte_af (a : Word) (v : Byte) (s : State) :
    (writeByte a v s).af = s.af := rfl
@[simp] theorem writeByte_bc (a : Word) (v : Byte) (s : State) :
    (writeByte a v s).bc = s.bc := rfl
@[simp] theorem writeByte_de (a : Word) (v : Byte) (s : State) :
    (writeByte a v s).de = s.de := rfl
@[simp] theorem writeByte_hl (a : Word) (v : Byte) (s : State) :
    (writeByte a v s).hl = s.hl := rfl
@[simp] theorem writeByte_afx (a : Word) (v : Byte) (s : State) :
    (writeByte a v s).afx = s.afx := rfl
@[simp] theorem writeByte_bcx (a : Word) (v : Byte) (s : State) :
    (writeByte a v s).bcx = s.bcx := rfl
@[simp] theorem writeByte_dex (a : Word) (v : Byte) (s : State) :
    (writeByte a v s).dex = s.dex := rfl
@[simp] theorem writeByte_hlx (a : Word) (v : Byte) (s : State) :
    (writeByte a v s).hlx = s.hlx := rfl
@[simp] theorem writeByte_ix (a : Word) (v : Byte) (s : State) :
    (writeByte a v s).ix = s.ix := rfl
@[simp] theorem writeByte_iy (a : Word) (v : Byte) (s : State) :
    (writeByte a v s).iy = s.iy := rfl
@[simp] theorem writeByte_ir (a : Word) (v : Byte) (s : State) :
    (writeByte a v s).ir = s.ir := rfl
@[simp] theorem writeByte_pc (a : Word) (v : Byte) (s : State) :
    (writeByte a v s).pc = s.pc := rfl
@[simp] theorem writeByte_sp (a : Word) (v : Byte) (s : State) :
    (writeByte a v s).sp = s.sp := rfl
@[simp] theorem writeByte_iff1 (a : Word) (v : Byte) (s : State) :
    (writeByte a v s).iff1 = s.iff1 := rfl
@[simp] theorem writeByte_iff2 (a : Word) (v : Byte) (s : State) :
    (writeByte a v s).iff2 = s.iff2 := rfl
@[simp] theorem writeByte_im (a : Word) (v : Byte) (s : State) :
    (writeByte a v s).im = s.im := rfl
@[simp] theorem writeByte_halt (a : Word) (v : Byte) (s : State) :
    (writeByte a v s).halt = s.halt := rfl
@[simp] theorem writeByte_intp (a : Word) (v : Byte) (s : State) :
    (writeByte a v s).intp = s.intp := rfl
@[simp] theorem writeByte_nmip (a : Word) (v : Byte) (s : State) :
    (writeByte a v s).nmip = s.nmip := rfl
@[simp] theorem writeByte_tcyc (a : Word) (v : Byte) (s : State) :
    (writeByte a v s).tcyc = s.tcyc := rfl
@[simp] theorem writeByte_fatal (a : Word) (v : Byte) (s : State) :
    (writeByte a v s).fatal = s.fatal := rfl
@[simp] theorem writeByte_fatalInfo (a : Word) (v : Byte) (s : State) :
    (writeByte a v s).fatalInfo = s.fatalInfo := rfl
@[simp] theorem writeByte_mem (a : Word) (v : Byte) (s : State) :
    (writeByte a v s).mem = memPut s.mem a.toNat v := rfl

/-! ### writeWordWith -/

@[simp] theorem writeWordWith_af (w : Word → Bool) (a v : Word) (s : State) :
    (writeWordWith w a v s).af = s.af := rfl
@[simp] theorem writeWordWith_bc (w : Word → Bool) (a v : Word) (s : State) :
    (writeWordWith w a v s).bc = s.bc := rfl
@[simp] theorem writeWordWith_de (w : Word → Bool) (a v : Word) (s : State) :
    (writeWordWith w a v s).de = s.de := rfl
@[simp] theorem writeWordWith_hl (w : Word → Bool) (a v : Word) (s : State) :
    (writeWordWith w a v s).hl = s.hl := rfl
@[simp] theorem writeWordWith_afx (w : Word → Bool) (a v : Word) (s : State) :
    (writeWordWith w a v s).afx = s.afx := rfl
@[simp] theorem writeWordWith_bcx (w : Word → Bool) (a v : Word) (s : State) :
    (writeWordWith w a v s).bcx = s.bcx := rfl
@[simp] theorem writeWordWith_dex (w : Word → Bool) (a v : Word) (s : State) :
    (writeWordWith w a v s).dex = s.dex := rfl
@[simp] theorem writeWordWith_hlx (w : Word → Bool) (a v : Word) (s : State) :
    (writeWordWith w a v s).hlx = s.hlx := rfl
@[simp] theorem writeWordWith_ix (w : Word → Bool) (a v : Word) (s : State) :
    (writeWordWith w a v s).ix = s.ix := rfl
@[simp] theorem writeWordWith_iy (w : Word → Bool) (a v : Word) (s : State) :
    (writeWordWith w a v s).iy = s.iy := rfl
@[simp] theorem writeWordWith_ir (w : Word → Bool) (a v : Word) (s : State) :
    (writeWordWith w a v s).ir = s.ir := rfl
@[simp] theorem writeWordWith_pc (w : Word → Bool) (a v : Word) (s : State) :
    (writeWordWith w a v s).pc = s.pc := rfl
@[simp] theorem writeWordWith_sp (w : Word → Bool) (a v : Word) (s : State) :
    (writeWordWith w a v s).sp = s.sp := rfl
@[simp] theorem writeWordWith_iff1 (w : Word → Bool) (a v : Word) (s : State) :
    (writeWordWith w a v s).iff1 = s.iff1 := rfl
@[simp] theorem writeWordWith_iff2 (w : Word → Bool) (a v : Word) (s : State) :
    (writeWordWith w a v s).iff2 = s.iff2 := rfl
@[simp] theorem writeWordWith_im (w : Word → Bool) (a v : Word) (s : State) :
    (writeWordWith w a v s).im = s.im := rfl
@[simp] theorem writeWordWith_halt (w : Word → Bool) (a v : Word) (s : State) :
    (writeWordWith w a v s).halt = s.halt := rfl
@[simp] theorem writeWordWith_intp (w : Word → Bool) (a v : Word) (s : State) :
    (writeWordWith w a v s).intp = s.intp := rfl
@[simp] theorem writeWordWith_nmip (w : Word → Bool) (a v : Word) (s : State) :
    (writeWordWith w a v s).nmip = s.nmip := rfl
@[simp] theorem writeWordWith_tcyc (w : Word → Bool) (a v : Word) (s : State) :
    (writeWordWith w a v s).tcyc = s.tcyc := rfl
@[simp] theorem writeWordWith_fatal (w : Word → Bool) (a v : Word) (s : State) :
    (writeWordWith w a v s).fatal = s.fatal := rfl
@[simp] theorem writeWordWith_fatalInfo (w : Word → Bool) (a v : Word) (s : State) :
    (writeWordWith w a v s).fatalInfo = s.fatalInfo := rfl

/-! ### writeWord -/

@[simp] theorem writeWord_af (a v : Word) (s : State) : (writeWord a v s).af = s.af := rfl
@[simp] theorem writeWord_bc (a v : Word) (s : State) : (writeWord a v s).bc = s.bc := rfl
@[simp] theorem writeWord_de (a v : Word) (s : State) : (writeWord a v s).de = s.de := rfl
@[simp] theorem writeWord_hl (a v : Word) (s : State) : (writeWord a v s).hl = s.hl := rfl
@[simp] theorem writeWord_afx (a v : Word) (s : State) : (writeWord a v s).afx = s.afx := rfl
@[simp] theorem writeWord_bcx (a v : Word) (s : State) : (writeWord a v s).bcx = s.bcx := rfl
@[simp] theorem writeWord_dex (a v : Word) (s : State) : (writeWord a v s).dex = s.dex := rfl
@[simp] theorem writeWord_hlx (a v : Word) (s : State) : (writeWord a v s).hlx = s.hlx := rfl
@[simp] theorem writeWord_ix (a v : Word) (s : State) : (writeWord a v s).ix = s.ix := rfl
@[simp] theorem writeWord_iy (a v : Word) (s : State) : (writeWord a v s).iy = s.iy := rfl
@[simp] theorem writeWord_ir (a v : Word) (s : State) : (writeWord a v s).ir = s.ir := rfl
@[simp] theorem writeWord_pc (a v : Word) (s : State) : (writeWord a v s).pc = s.pc := rfl
@[simp] theorem writeWord_sp (a v : Word) (s : State) : (writeWord a v s).sp = s.sp := rfl
@[simp] theorem writeWord_iff1 (a v : Word) (s : State) : (writeWord a v s).iff1 = s.iff1 := rfl
@[simp] theorem writeWord_iff2 (a v : Word) (s : State) : (writeWord a v s).iff2 = s.iff2 := rfl
@[simp] theorem writeWord_im (a v : Word) (s : State) : (writeWord a v s).im = s.im := rfl
@[simp] theorem writeWord_halt (a v : Word) (s : State) : (writeWord a v s).halt = s.halt := rfl
@[simp] theorem writeWord_intp (a v : Word) (s : State) : (writeWord a v s).intp = s.intp := rfl
@[simp] theorem writeWord_nmip (a v : Word) (s : State) : (writeWord a v s).nmip = s.nmip := rfl
@[simp] theorem writeWord_tcyc (a v : Word) (s : State) : (writeWord a v s).tcyc = s.tcyc := rfl
@[simp] theorem writeWord_fatal (a v : Word) (s : State) :
    (writeWord a v s).fatal = s.fatal := rfl
@[simp] theorem writeWord_fatalInfo (a v : Word) (s : State) :
    (writeWord a v s).fatalInfo = s.fatalInfo := rfl
@[simp] theorem writeWord_mem (a v : Word) (s : State) :
    (writeWord a v s).mem = memPut (memPut s.mem a.toNat (loByte v)) (a + 1).toNat (hiByte v) := rfl

/-! ### push16With -/

@[simp] theorem push16With_af (w : Word → Bool) (v : Word) (s : State) :
    (push16With w v s).af = s.af := rfl
@[simp] theorem push16With_bc (w : Word → Bool) (v : Word) (s : State) :
    (push16With w v s).bc = s.bc := rfl
@[simp] theorem push16With_de (w : Word → Bool) (v : Word) (s : State) :
    (push16With w v s).de = s.de := rfl
@[simp] theorem push16With_hl (w : Word → Bool) (v : Word) (s : State) :
    (push16With w v s).hl = s.hl := rfl
@[simp] theorem push16With_afx (w : Word → Bool) (v : Word) (s : State) :
    (push16With w v s).afx = s.afx := rfl
@[simp] theorem push16With_bcx (w : Word → Bool) (v : Word) (s : State) :
    (push16With w v s).bcx = s.bcx := rfl
@[simp] theorem push16With_dex (w : Word → Bool) (v : Word) (s : State) :
    (push16With w v s).dex = s.dex := rfl
@[simp] theorem push16With_hlx (w : Word → Bool) (v : Word) (s : State) :
    (push16With w v s).hlx = s.hlx := rfl
@[simp] theorem push16With_ix (w : Word → Bool) (v : Word) (s : State) :
    (push16With w v s).ix = s.ix := rfl
@[simp] theorem push16With_iy (w : Word → Bool) (v : Word) (s : State) :
    (push16With w v s).iy = s.iy := rfl
@[simp] theorem push16With_ir (w : Word → Bool) (v : Word) (s : State) :
    (push16With w v s).ir = s.ir := rfl
@[simp] theorem push16With_pc (w : Word → Bool) (v : Word) (s : State) :
    (push16With w v s).pc = s.pc := rfl
@[simp] theorem push16With_sp (w : Word → Bool) (v : Word) (s : State) :
    (push16With w v s).sp = s.sp - 1 - 1 := rfl
@[simp] theorem push16With_iff1 (w : Word → Bool) (v : Word) (s : State) :
    (push16With w v s).iff1 = s.iff1 := rfl
@[simp] theorem push16With_iff2 (w : Word → Bool) (v : Word) (s : State) :
    (push16With w v s).iff2 = s.iff2 := rfl
@[simp] theorem push16With_im (w : Word → Bool) (v : Word) (s : State) :
    (push16With w v s).im = s.im := rfl
@[simp] theorem push16With_halt (w : Word → Bool) (v : Word) (s : State) :
    (push16With w v s).halt = s.halt := rfl
@[simp] theorem push16With_intp (w : Word → Bool) (v : Word) (s : State) :
    (push16With w v s).intp = s.intp := rfl
@[simp] theorem push16With_nmip (w : Word → Bool) (v : Word) (s : State) :
    (push16With w v s).nmip = s.nmip := rfl
@[simp] theorem push16With_tcyc (w : Word → Bool) (v : Word) (s : State) :
    (push16With w v s).tcyc = s.tcyc := rfl
@[simp] theorem push16With_fatal (w : Word → Bool) (v : Word) (s : State) :
    (push16With w v s).fatal = s.fatal := rfl
@[simp] theorem push16With_fatalInfo (w : Word → Bool) (v : Word) (s : State) :
    (push16With w v s).fatalInfo = s.fatalInfo := rfl

/-! ### pop16 -/

@[simp] theorem pop16_af (s : State) : (pop16 s).2.af = s.af := rfl
@[simp] theorem pop16_bc (s : State) : (pop16 s).2.bc = s.bc := rfl
@[simp] theorem pop16_de (s : State) : (pop16 s).2.de = s.de := rfl
@[simp] theorem pop16_hl (s : State) : (pop16 s).2.hl = s.hl := rfl
@[simp] theorem pop16_afx (s : State) : (pop16 s).2.afx = s.afx := rfl
@[simp] theorem pop16_bcx (s : State) : (pop16 s).2.bcx = s.bcx := rfl
@[simp] theorem pop16_dex (s : State) : (pop16 s).2.dex = s.dex := rfl
@[simp] theorem pop16_hlx (s : State) : (pop16 s).2.hlx = s.hlx := rfl
@[simp] theorem pop16_ix (s : State) : (pop16 s).2.ix = s.ix := rfl
@[simp] theorem pop16_iy (s : State) : (pop16 s).2.iy = s.iy := rfl
@[simp] theorem pop16_ir (s : State) : (pop16 s).2.ir = s.ir := rfl
@[simp] theorem pop16_pc (s : State) : (pop16 s).2.pc = s.pc := rfl
@[simp] theorem pop16_sp (s : State) : (pop16 s).2.sp = s.sp + 1 + 1 := rfl
@[simp] theorem pop16_iff1 (s : State) : (pop16 s).2.iff1 = s.iff1 := rfl
@[simp] theorem pop16_iff2 (s : State) : (pop16 s).2.iff2 = s.iff2 := rfl
@[simp] theorem pop16_im (s : State) : (pop16 s).2.im = s.im := rfl
@[simp] theorem pop16_halt (s : State) : (pop16 s).2.halt = s.halt := rfl
@[simp] theorem pop16_intp (s : State) : (pop16 s).2.intp = s.intp := rfl
@[simp] theorem pop16_nmip (s : State) : (pop16 s).2.nmip = s.nmip := rfl
@[simp] theorem pop16_tcyc (s : State) : (pop16 s).2.tcyc = s.tcyc := rfl
@[simp] theorem pop16_fatal (s : State) : (pop16 s).2.fatal = s.fatal := rfl
@[simp] theorem pop16_fatalInfo (s : State) : (pop16 s).2.fatalInfo = s.fatalInfo := rfl
@[simp] theorem pop16_mem (s : State) : (pop16 s).2.mem = s.mem := rfl

/-! ### raiseFatal -/

@[simp] theorem raiseFatal_af (a : Word) (b0 b1 b2 : Byte) (s : State) :
    (raiseFatal a b0 b1 b2 s).af = s.af := rfl
@[simp] theorem raiseFatal_bc (a : Word) (b0 b1 b2 : Byte) (s : State) :
    (raiseFatal a b0 b1 b2 s).bc = s.bc := rfl
@[simp] theorem raiseFatal_de (a : Word) (b0 b1 b2 : Byte) (s : State) :
    (raiseFatal a b0 b1 b2 s).de = s.de := rfl
@[simp] theorem raiseFatal_hl (a : Word) (b0 b1 b2 : Byte) (s : State) :
    (raiseFatal a b0 b1 b2 s).hl = s.hl := rfl
@[simp] theorem raiseFatal_afx (a : Word) (b0 b1 b2 : Byte) (s : State) :
    (raiseFatal a b0 b1 b2 s).afx = s.afx := rfl
@[simp] theorem raiseFatal_bcx (a : Word) (b0 b1 b2 : Byte) (s : State) :
    (raiseFatal a b0 b1 b2 s).bcx = s.bcx := rfl
@[simp] theorem raiseFatal_dex (a : Word) (b0 b1 b2 : Byte) (s : State) :
    (raiseFatal a b0 b1 b2 s).dex = s.dex := rfl
@[simp] theorem raiseFatal_hlx (a : Word) (b0 b1 b2 : Byte) (s : State) :
    (raiseFatal a b0 b1 b2 s).hlx = s.hlx := rfl
@[simp] theorem raiseFatal_ix (a : Word) (b0 b1 b2 : Byte) (s : State) :
    (raiseFatal a b0 b1 b2 s).ix = s.ix := rfl
@[simp] theorem raiseFatal_iy (a : Word) (b0 b1 b2 : Byte) (s : State) :
    (raiseFatal a b0 b1 b2 s).iy = s.iy := rfl
@[simp] theorem raiseFatal_ir (a : Word) (b0 b1 b2 : Byte) (s : State) :
    (raiseFatal a b0 b1 b2 s).ir = s.ir := rfl
@[simp] theorem raiseFatal_pc (a : Word) (b0 b1 b2 : Byte) (s : State) :
    (raiseFatal a b0 b1 b2 s).pc = s.pc := rfl
@[simp] theorem raiseFatal_sp (a : Word) (b0 b1 b2 : Byte) (s : State) :
    (raiseFatal a b0 b1 b2 s).sp = s.sp := rfl
@[simp] theorem raiseFatal_iff1 (a : Word) (b0 b1 b2 : Byte) (s : State) :
    (raiseFatal a b0 b1 b2 s).iff1 = s.iff1 := rfl
@[simp] theorem raiseFatal_iff2 (a : Word) (b0 b1 b2 : Byte) (s : State) :
    (raiseFatal a b0 b1 b2 s).iff2 = s.iff2 := rfl
@[simp] theorem raiseFatal_im (a : Word) (b0 b1 b2 : Byte) (s : State) :
    (raiseFatal a b0 b1 b2 s).im = s.im := rfl
@[simp] theorem raiseFatal_halt (a : Word) (b0 b1 b2 : Byte) (s : State) :
    (raiseFatal a b0 b1 b2 s).halt = s.halt := rfl
@[simp] theorem raiseFatal_intp (a : Word) (b0 b1 b2 : Byte) (s : State) :
    (raiseFatal a b0 b1 b2 s).intp = s.intp := rfl
@[simp] theorem raiseFatal_nmip (a : Word) (b0 b1 b2 : Byte) (s : State) :
    (raiseFatal a b0 b1 b2 s).nmip = s.nmip := rfl
@[simp] theorem raiseFatal_tcyc (a : Word) (b0 b1 b2 : Byte) (s : State) :
    (raiseFatal a b0 b1 b2 s).tcyc = s.tcyc := rfl
@[simp] theorem raiseFatal_fatal (a : Word) (b0 b1 b2 : Byte) (s : State) :
    (raiseFatal a b0 b1 b2 s).fatal = true := rfl
@[simp] theorem raiseFatal_fatalInfo (a : Word) (b0 b1 b2 : Byte) (s : State) :
    (raiseFatal a b0 b1 b2 s).fatalInfo = some ⟨a, b0, b1, b2⟩ := rfl
@[simp] theorem raiseFatal_mem (a : Word) (b0 b1 b2 : Byte) (s : State) :
    (raiseFatal a b0 b1 b2 s).mem = s.mem := rfl

/-! ### clearForNmi -/

@[simp] theorem clearForNmi_af (s : State) : (clearForNmi s).af = s.af := rfl
@[simp] theorem clearForNmi_bc (s : State) : (clearForNmi s).bc = s.bc := rfl
@[simp] theorem clearForNmi_de (s : State) : (clearForNmi s).de = s.de := rfl
@[simp] theorem clearForNmi_hl (s : State) : (clearForNmi s).hl = s.hl := rfl
@[simp] theorem clearForNmi_afx (s : State) : (clearForNmi s).afx = s.afx := rfl
@[simp] theorem clearForNmi_bcx (s : State) : (clearForNmi s).bcx = s.bcx := rfl
@[simp] theorem clearForNmi_dex (s : State) : (clearForNmi s).dex = s.dex := rfl
@[simp] theorem clearForNmi_hlx (s : State) : (clearForNmi s).hlx = s.hlx := rfl
@[simp] theorem clearForNmi_ix (s : State) : (clearForNmi s).ix = s.ix := rfl
@[simp] theorem clearForNmi_iy (s : State) : (clearForNmi s).iy = s.iy := rfl
@[simp] theorem clearForNmi_ir (s : State) : (clearForNmi s).ir = s.ir := rfl
@[simp] theorem clearForNmi_pc (s : State) : (clearForNmi s).pc = s.pc := rfl
@[simp] theorem clearForNmi_sp (s : State) : (clearForNmi s).sp = s.sp := rfl
@[simp] theorem clearForNmi_iff1 (s : State) : (clearForNmi s).iff1 = false := rfl
@[simp] theorem clearForNmi_iff2 (s : State) : (clearForNmi s).iff2 = s.iff2 := rfl
@[simp] theorem clearForNmi_im (s : State) : (clearForNmi s).im = s.im := rfl
@[simp] theorem clearForNmi_halt (s : State) : (clearForNmi s).halt = false := rfl
@[simp] theorem clearForNmi_intp (s : State) : (clearForNmi s).intp = s.intp := rfl
@[simp] theorem clearForNmi_nmip (s : State) : (clearForNmi s).nmip = s.nmip := rfl
@[simp] theorem clearForNmi_tcyc (s : State) : (clearForNmi s).tcyc = s.tcyc := rfl
@[simp] theorem clearForNmi_fatal (s : State) : (clearForNmi s).fatal = s.fatal := rfl
@[simp] theorem clearForNmi_fatalInfo (s : State) : (clearForNmi s).fatalInfo = s.fatalInfo := rfl
@[simp] theorem clearForNmi_mem (s : State) : (clearForNmi s).mem = s.mem := rfl

/-! ### clearForInt -/

@[simp] theorem clearForInt_af (s : State) : (clearForInt s).af = s.af := rfl
@[simp] theorem clearForInt_bc (s : State) : (clearForInt s).bc = s.bc := rfl
@[simp] theorem clearForInt_de (s : State) : (clearForInt s).de = s.de := rfl
@[simp] theorem clearForInt_hl (s : State) : (clearForInt s).hl = s.hl := rfl
@[simp] theorem clearForInt_afx (s : State) : (clearForInt s).afx = s.afx := rfl
@[simp] theorem clearForInt_bcx (s : State) : (clearForInt s).bcx = s.bcx := rfl
@[simp] theorem clearForInt_dex (s : State) : (clearForInt s).dex = s.dex := rfl
@[simp] theorem clearForInt_hlx (s : State) : (clearForInt s).hlx = s.hlx := rfl
@[simp] theorem clearForInt_ix (s : State) : (clearForInt s).ix = s.ix := rfl
@[simp] theorem clearForInt_iy (s : State) : (clearForInt s).iy = s.iy := rfl
@[simp] theorem clearForInt_ir (s : State) : (clearForInt s).ir = s.ir := rfl
@[simp] theorem clearForInt_pc (s : State) : (clearForInt s).pc = s.pc := rfl
@[simp] theorem clearForInt_sp (s : State) : (clearForInt s).sp = s.sp := rfl
@[simp] theorem clearForInt_iff1 (s : State) : (clearForInt s).iff1 = false := rfl
@[simp] theorem clearForInt_iff2 (s : State) : (clearForInt s).iff2 = false := rfl
@[simp] theorem clearForInt_im (s : State) : (clearForInt s).im = s.im := rfl
@[simp] theorem clearForInt_halt (s : State) : (clearForInt s).halt = false := rfl
@[simp] theorem clearForInt_intp (s : State) : (clearForInt s).intp = s.intp := rfl
@[simp] theorem clearForInt_nmip (s : State) : (clearForInt s).nmip = s.nmip := rfl
@[simp] theorem clearForInt_tcyc (s : State) : (clearForInt s).tcyc = s.tcyc := rfl
@[simp] theorem clearForInt_fatal (s : State) : (clearForInt s).fatal = s.fatal := rfl
@[simp] theorem clearForInt_fatalInfo (s : State) : (clearForInt s).fatalInfo = s.fatalInfo := rfl
@[simp] theorem clearForInt_mem (s : State) : (clearForInt s).mem = s.mem := rfl

/-! ### jumpTo -/

@[simp] theorem jumpTo_af (target : Word) (s : State) : (jumpTo target s).af = s.af := rfl
@[simp] theorem jumpTo_bc (target : Word) (s : State) : (jumpTo target s).bc = s.bc := rfl
@[simp] theorem jumpTo_de (target : Word) (s : State) : (jumpTo target s).de = s.de := rfl
@[simp] theorem jumpTo_hl (target : Word) (s : State) : (jumpTo target s).hl = s.hl := rfl
@[simp] theorem jumpTo_afx (target : Word) (s : State) : (jumpTo target s).afx = s.afx := rfl
@[simp] theorem jumpTo_bcx (target : Word) (s : State) : (jumpTo target s).bcx = s.bcx := rfl
@[simp] theorem jumpTo_dex (target : Word) (s : State) : (jumpTo target s).dex = s.dex := rfl
@[simp] theorem jumpTo_hlx (target : Word) (s : State) : (jumpTo target s).hlx = s.hlx := rfl
@[simp] theorem jumpTo_ix (target : Word) (s : State) : (jumpTo target s).ix = s.ix := rfl
@[simp] theorem jumpTo_iy (target : Word) (s : State) : (jumpTo target s).iy = s.iy := rfl
@[simp] theorem jumpTo_ir (target : Word) (s : State) : (jumpTo target s).ir = s.ir := rfl
@[simp] theorem jumpTo_pc (target : Word) (s : State) : (jumpTo target s).pc = target := rfl
@[simp] theorem jumpTo_sp (target : Word) (s : State) : (jumpTo target s).sp = s.sp := rfl
@[simp] theorem jumpTo_iff1 (target : Word) (s : State) : (jumpTo target s).iff1 = s.iff1 := rfl
@[simp] theorem jumpTo_iff2 (target : Word) (s : State) : (jumpTo target s).iff2 = s.iff2 := rfl
@[simp] theorem jumpTo_im (target : Word) (s : State) : (jumpTo target s).im = s.im := rfl
@[simp] theorem jumpTo_halt (target : Word) (s : State) : (jumpTo target s).halt = s.halt := rfl
@[simp] theorem jumpTo_intp (target : Word) (s : State) : (jumpTo target s).intp = s.intp := rfl
@[simp] theorem jumpTo_nmip (target : Word) (s : State) : (jumpTo target s).nmip = s.nmip := rfl
@[simp] theorem jumpTo_tcyc (target : Word) (s : State) : (jumpTo target s).tcyc = s.tcyc := rfl
@[simp] theorem jumpTo_fatal (target : Word) (s : State) :
    (jumpTo target s).fatal = s.fatal := rfl
@[simp] theorem jumpTo_fatalInfo (target : Word) (s : State) :
    (jumpTo target s).fatalInfo = s.fatalInfo := rfl
@[simp] theorem jumpTo_mem (target : Word) (s : State) : (jumpTo target s).mem = s.mem := rfl

/-! ### callToWith -/

@[simp] theorem callToWith_af (w : Word → Bool) (target : Word) (s : State) :
    (callToWith w target s).af = s.af := rfl
@[simp] theorem callToWith_bc (w : Word → Bool) (target : Word) (s : State) :
    (callToWith w target s).bc = s.bc := rfl
@[simp] theorem callToWith_de (w : Word → Bool) (target : Word) (s : State) :
    (callToWith w target s).de = s.de := rfl
@[simp] theorem callToWith_hl (w : Word → Bool) (target : Word) (s : State) :
    (callToWith w target s).hl = s.hl := rfl
@[simp] theorem callToWith_afx (w : Word → Bool) (target : Word) (s : State) :
    (callToWith w target s).afx = s.afx := rfl
@[simp] theorem callToWith_bcx (w : Word → Bool) (target : Word) (s : State) :
    (callToWith w target s).bcx = s.bcx := rfl
@[simp] theorem callToWith_dex (w : Word → Bool) (target : Word) (s : State) :
    (callToWith w target s).dex = s.dex := rfl
@[simp] theorem callToWith_hlx (w : Word → Bool) (target : Word) (s : State) :
    (callToWith w target s).hlx = s.hlx := rfl
@[simp] theorem callToWith_ix (w : Word → Bool) (target : Word) (s : State) :
    (callToWith w target s).ix = s.ix := rfl
@[simp] theorem callToWith_iy (w : Word → Bool) (target : Word) (s : State) :
    (callToWith w target s).iy = s.iy := rfl
@[simp] theorem callToWith_ir (w : Word → Bool) (target : Word) (s : State) :
    (callToWith w target s).ir = s.ir := rfl
@[simp] theorem callToWith_pc (w : Word → Bool) (target : Word) (s : State) :
    (callToWith w target s).pc = target := rfl
@[simp] theorem callToWith_sp (w : Word → Bool) (target : Word) (s : State) :
    (callToWith w target s).sp = s.sp - 1 - 1 := rfl
@[simp] theorem callToWith_iff1 (w : Word → Bool) (target : Word) (s : State) :
    (callToWith w target s).iff1 = s.iff1 := rfl
@[simp] theorem callToWith_iff2 (w : Word → Bool) (target : Word) (s : State) :
    (callToWith w target s).iff2 = s.iff2 := rfl
@[simp] theorem callToWith_im (w : Word → Bool) (target : Word) (s : State) :
    (callToWith w target s).im = s.im := rfl
@[simp] theorem callToWith_halt (w : Word → Bool) (target : Word) (s : State) :
    (callToWith w target s).halt = s.halt := rfl
@[simp] theorem callToWith_intp (w : Word → Bool) (target : Word) (s : State) :
    (callToWith w target s).intp = s.intp := rfl
@[simp] theorem callToWith_nmip (w : Word → Bool) (target : Word) (s : State) :
    (callToWith w target s).nmip = s.nmip := rfl
@[simp] theorem callToWith_tcyc (w : Word → Bool) (target : Word) (s : State) :
    (callToWith w target s).tcyc = s.tcyc := rfl
@[simp] theorem callToWith_fatal (w : Word → Bool) (target : Word) (s : State) :
    (callToWith w target s).fatal = s.fatal := rfl
@[simp] theorem callToWith_fatalInfo (w : Word → Bool) (target : Word) (s : State) :
    (callToWith w target s).fatalInfo = s.fatalInfo := rfl

/-! ### jumpIf -/

@[simp] theorem jumpIf_af (cond : Bool) (target : Word) (s : State) :
    (jumpIf cond target s).af = s.af := rfl
@[simp] theorem jumpIf_bc (cond : Bool) (target : Word) (s : State) :
    (jumpIf cond target s).bc = s.bc := rfl
@[simp] theorem jumpIf_de (cond : Bool) (target : Word) (s : State) :
    (jumpIf cond target s).de = s.de := rfl
@[simp] theorem jumpIf_hl (cond : Bool) (target : Word) (s : State) :
    (jumpIf cond target s).hl = s.hl := rfl
@[simp] theorem jumpIf_afx (cond : Bool) (target : Word) (s : State) :
    (jumpIf cond target s).afx = s.afx := rfl
@[simp] theorem jumpIf_bcx (cond : Bool) (target : Word) (s : State) :
    (jumpIf cond target s).bcx = s.bcx := rfl
@[simp] theorem jumpIf_dex (cond : Bool) (target : Word) (s : State) :
    (jumpIf cond target s).dex = s.dex := rfl
@[simp] theorem jumpIf_hlx (cond : Bool) (target : Word) (s : State) :
    (jumpIf cond target s).hlx = s.hlx := rfl
@[simp] theorem jumpIf_ix (cond : Bool) (target : Word) (s : State) :
    (jumpIf cond target s).ix = s.ix := rfl
@[simp] theorem jumpIf_iy (cond : Bool) (target : Word) (s : State) :
    (jumpIf cond target s).iy = s.iy := rfl
@[simp] theorem jumpIf_ir (cond : Bool) (target : Word) (s : State) :
    (jumpIf cond target s).ir = s.ir := rfl
@[simp] theorem jumpIf_pc (cond : Bool) (target : Word) (s : State) :
    (jumpIf cond target s).pc = if cond then target else s.pc := rfl
@[simp] theorem jumpIf_sp (cond : Bool) (target : Word) (s : State) :
    (jumpIf cond target s).sp = s.sp := rfl
@[simp] theorem jumpIf_iff1 (cond : Bool) (target : Word) (s : State) :
    (jumpIf cond target s).iff1 = s.iff1 := rfl
@[simp] theorem jumpIf_iff2 (cond : Bool) (target : Word) (s : State) :
    (jumpIf cond target s).iff2 = s.iff2 := rfl
@[simp] theorem jumpIf_im (cond : Bool) (target : Word) (s : State) :
    (jumpIf cond target s).im = s.im := rfl
@[simp] theorem jumpIf_halt (cond : Bool) (target : Word) (s : State) :
    (jumpIf cond target s).halt = s.halt := rfl
@[simp] theorem jumpIf_intp (cond : Bool) (target : Word) (s : State) :
    (jumpIf cond target s).intp = s.intp := rfl
@[simp] theorem jumpIf_nmip (cond : Bool) (target : Word) (s : State) :
    (jumpIf cond target s).nmip = s.nmip := rfl
@[simp] theorem jumpIf_tcyc (cond : Bool) (target : Word) (s : State) :
    (jumpIf cond target s).tcyc = s.tcyc := rfl
@[simp] theorem jumpIf_fatal (cond : Bool) (target : Word) (s : State) :
    (jumpIf cond target s).fatal = s.fatal := rfl
@[simp] theorem jumpIf_fatalInfo (cond : Bool) (target : Word) (s : State) :
    (jumpIf cond target s).fatalInfo = s.fatalInfo := rfl
@[simp] theorem jumpIf_mem (cond : Bool) (target : Word) (s : State) :
    (jumpIf cond target s).mem = s.mem := rfl

/-! ### advance -/

@[simp] theorem advance_af (k : Nat) (s : State) : (advance k s).af = s.af := rfl
@[simp] theorem advance_bc (k : Nat) (s : State) : (advance k s).bc = s.bc := rfl
@[simp] theorem advance_de (k : Nat) (s : State) : (advance k s).de = s.de := rfl
@[simp] theorem advance_hl (k : Nat) (s : State) : (advance k s).hl = s.hl := rfl
@[simp] theorem advance_afx (k : Nat) (s : State) : (advance k s).afx = s.afx := rfl
@[simp] theorem advance_bcx (k : Nat) (s : State) : (advance k s).bcx = s.bcx := rfl
@[simp] theorem advance_dex (k : Nat) (s : State) : (advance k s).dex = s.dex := rfl
@[simp] theorem advance_hlx (k : Nat) (s : State) : (advance k s).hlx = s.hlx := rfl
@[simp] theorem advance_ix (k : Nat) (s : State) : (advance k s).ix = s.ix := rfl
@[simp] theorem advance_iy (k : Nat) (s : State) : (advance k s).iy = s.iy := rfl
@[simp] theorem advance_ir (k : Nat) (s : State) : (advance k s).ir = s.ir := rfl
@[simp] theorem advance_pc (k : Nat) (s : State) :
    (advance k s).pc = s.pc + BitVec.ofNat 16 k := rfl
@[simp] theorem advance_sp (k : Nat) (s : State) : (advance k s).sp = s.sp := rfl
@[simp] theorem advance_iff1 (k : Nat) (s : State) : (advance k s).iff1 = s.iff1 := rfl
@[simp] theorem advance_iff2 (k : Nat) (s : State) : (advance k s).iff2 = s.iff2 := rfl
@[simp] theorem advance_im (k : Nat) (s : State) : (advance k s).im = s.im := rfl
@[simp] theorem advance_halt (k : Nat) (s : State) : (advance k s).halt = s.halt := rfl
@[simp] theorem advance_intp (k : Nat) (s : State) : (advance k s).intp = s.intp := rfl
@[simp] theorem advance_nmip (k : Nat) (s : State) : (advance k s).nmip = s.nmip := rfl
@[simp] theorem advance_tcyc (k : Nat) (s : State) : (advance k s).tcyc = s.tcyc := rfl
@[simp] theorem advance_fatal (k : Nat) (s : State) : (advance k s).fatal = s.fatal := rfl
@[simp] theorem advance_fatalInfo (k : Nat) (s : State) :
    (advance k s).fatalInfo = s.fatalInfo := rfl
@[simp] theorem advance_mem (k : Nat) (s : State) : (advance k s).mem = s.mem := rfl

/-! ### hideSequencer -/

@[simp] theorem hideSequencer_af (s : State) : (hideSequencer s).af = s.af := rfl
@[simp] theorem hideSequencer_bc (s : State) : (hideSequencer s).bc = s.bc := rfl
@[simp] theorem hideSequencer_de (s : State) : (hideSequencer s).de = s.de := rfl
@[simp] theorem hideSequencer_hl (s : State) : (hideSequencer s).hl = s.hl := rfl
@[simp] theorem hideSequencer_afx (s : State) : (hideSequencer s).afx = s.afx := rfl
@[simp] theorem hideSequencer_bcx (s : State) : (hideSequencer s).bcx = s.bcx := rfl
@[simp] theorem hideSequencer_dex (s : State) : (hideSequencer s).dex = s.dex := rfl
@[simp] theorem hideSequencer_hlx (s : State) : (hideSequencer s).hlx = s.hlx := rfl
@[simp] theorem hideSequencer_ix (s : State) : (hideSequencer s).ix = s.ix := rfl
@[simp] theorem hideSequencer_iy (s : State) : (hideSequencer s).iy = s.iy := rfl
@[simp] theorem hideSequencer_ir (s : State) : (hideSequencer s).ir = s.ir := rfl
@[simp] theorem hideSequencer_pc (s : State) : (hideSequencer s).pc = s.pc := rfl
@[simp] theorem hideSequencer_sp (s : State) : (hideSequencer s).sp = s.sp := rfl
@[simp] theorem hideSequencer_iff1 (s : State) : (hideSequencer s).iff1 = s.iff1 := rfl
@[simp] theorem hideSequencer_iff2 (s : State) : (hideSequencer s).iff2 = s.iff2 := rfl
@[simp] theorem hideSequencer_im (s : State) : (hideSequencer s).im = s.im := rfl
@[simp] theorem hideSequencer_halt (s : State) : (hideSequencer s).halt = s.halt := rfl
@[simp] theorem hideSequencer_intp (s : State) : (hideSequencer s).intp = false := rfl
@[simp] theorem hideSequencer_nmip (s : State) : (hideSequencer s).nmip = false := rfl
@[simp] theorem hideSequencer_tcyc (s : State) : (hideSequencer s).tcyc = 0 := rfl
@[simp] theorem hideSequencer_fatal (s : State) : (hideSequencer s).fatal = false := rfl
@[simp] theorem hideSequencer_fatalInfo (s : State) : (hideSequencer s).fatalInfo = none := rfl
@[simp] theorem hideSequencer_mem (s : State) : (hideSequencer s).mem = s.mem := rfl

/-! ### keepSequencer -/

@[simp] theorem keepSequencer_af (t : State) (s : State) : (keepSequencer s t).af = t.af := rfl
@[simp] theorem keepSequencer_bc (t : State) (s : State) : (keepSequencer s t).bc = t.bc := rfl
@[simp] theorem keepSequencer_de (t : State) (s : State) : (keepSequencer s t).de = t.de := rfl
@[simp] theorem keepSequencer_hl (t : State) (s : State) : (keepSequencer s t).hl = t.hl := rfl
@[simp] theorem keepSequencer_afx (t : State) (s : State) : (keepSequencer s t).afx = t.afx := rfl
@[simp] theorem keepSequencer_bcx (t : State) (s : State) : (keepSequencer s t).bcx = t.bcx := rfl
@[simp] theorem keepSequencer_dex (t : State) (s : State) : (keepSequencer s t).dex = t.dex := rfl
@[simp] theorem keepSequencer_hlx (t : State) (s : State) : (keepSequencer s t).hlx = t.hlx := rfl
@[simp] theorem keepSequencer_ix (t : State) (s : State) : (keepSequencer s t).ix = t.ix := rfl
@[simp] theorem keepSequencer_iy (t : State) (s : State) : (keepSequencer s t).iy = t.iy := rfl
@[simp] theorem keepSequencer_ir (t : State) (s : State) : (keepSequencer s t).ir = t.ir := rfl
@[simp] theorem keepSequencer_pc (t : State) (s : State) : (keepSequencer s t).pc = t.pc := rfl
@[simp] theorem keepSequencer_sp (t : State) (s : State) : (keepSequencer s t).sp = t.sp := rfl
@[simp] theorem keepSequencer_iff1 (t : State) (s : State) :
    (keepSequencer s t).iff1 = t.iff1 := rfl
@[simp] theorem keepSequencer_iff2 (t : State) (s : State) :
    (keepSequencer s t).iff2 = t.iff2 := rfl
@[simp] theorem keepSequencer_im (t : State) (s : State) : (keepSequencer s t).im = t.im := rfl
@[simp] theorem keepSequencer_halt (t : State) (s : State) :
    (keepSequencer s t).halt = t.halt := rfl
@[simp] theorem keepSequencer_intp (t : State) (s : State) :
    (keepSequencer s t).intp = s.intp := rfl
@[simp] theorem keepSequencer_nmip (t : State) (s : State) :
    (keepSequencer s t).nmip = s.nmip := rfl
@[simp] theorem keepSequencer_tcyc (t : State) (s : State) :
    (keepSequencer s t).tcyc = s.tcyc := rfl
@[simp] theorem keepSequencer_fatal (t : State) (s : State) :
    (keepSequencer s t).fatal = s.fatal := rfl
@[simp] theorem keepSequencer_fatalInfo (t : State) (s : State) :
    (keepSequencer s t).fatalInfo = s.fatalInfo := rfl
@[simp] theorem keepSequencer_mem (t : State) (s : State) : (keepSequencer s t).mem = t.mem := rfl

/-! ### writeReg and write8 -/

@[simp] theorem writeReg_af (v : Word) (s : State) : writeReg .af v s = { s with af := v } := rfl
@[simp] theorem writeReg_bc (v : Word) (s : State) : writeReg .bc v s = { s with bc := v } := rfl
@[simp] theorem writeReg_de (v : Word) (s : State) : writeReg .de v s = { s with de := v } := rfl
@[simp] theorem writeReg_hl (v : Word) (s : State) : writeReg .hl v s = { s with hl := v } := rfl
@[simp] theorem writeReg_afx (v : Word) (s : State) : writeReg .afx v s = { s with afx := v } := rfl
@[simp] theorem writeReg_bcx (v : Word) (s : State) : writeReg .bcx v s = { s with bcx := v } := rfl
@[simp] theorem writeReg_dex (v : Word) (s : State) : writeReg .dex v s = { s with dex := v } := rfl
@[simp] theorem writeReg_hlx (v : Word) (s : State) : writeReg .hlx v s = { s with hlx := v } := rfl
@[simp] theorem writeReg_ix (v : Word) (s : State) : writeReg .ix v s = { s with ix := v } := rfl
@[simp] theorem writeReg_iy (v : Word) (s : State) : writeReg .iy v s = { s with iy := v } := rfl
@[simp] theorem writeReg_ir (v : Word) (s : State) : writeReg .ir v s = { s with ir := v } := rfl
@[simp] theorem writeReg_pc (v : Word) (s : State) : writeReg .pc v s = { s with pc := v } := rfl
@[simp] theorem writeReg_sp (v : Word) (s : State) : writeReg .sp v s = { s with sp := v } := rfl

@[simp] theorem writeReg_field_iff1 (reg : Reg16) (v : Word) (s : State) : (writeReg reg v s).iff1 = s.iff1 := by
  cases reg <;> rfl
@[simp] theorem writeReg_field_iff2 (reg : Reg16) (v : Word) (s : State) : (writeReg reg v s).iff2 = s.iff2 := by
  cases reg <;> rfl
@[simp] theorem writeReg_field_im (reg : Reg16) (v : Word) (s : State) : (writeReg reg v s).im = s.im := by
  cases reg <;> rfl
@[simp] theorem writeReg_field_halt (reg : Reg16) (v : Word) (s : State) : (writeReg reg v s).halt = s.halt := by
  cases reg <;> rfl
@[simp] theorem writeReg_field_intp (reg : Reg16) (v : Word) (s : State) : (writeReg reg v s).intp = s.intp := by
  cases reg <;> rfl
@[simp] theorem writeReg_field_nmip (reg : Reg16) (v : Word) (s : State) : (writeReg reg v s).nmip = s.nmip := by
  cases reg <;> rfl
@[simp] theorem writeReg_field_tcyc (reg : Reg16) (v : Word) (s : State) : (writeReg reg v s).tcyc = s.tcyc := by
  cases reg <;> rfl
@[simp] theorem writeReg_field_fatal (reg : Reg16) (v : Word) (s : State) : (writeReg reg v s).fatal = s.fatal := by
  cases reg <;> rfl
@[simp] theorem writeReg_field_fatalInfo (reg : Reg16) (v : Word) (s : State) : (writeReg reg v s).fatalInfo = s.fatalInfo := by
  cases reg <;> rfl
@[simp] theorem writeReg_field_mem (reg : Reg16) (v : Word) (s : State) : (writeReg reg v s).mem = s.mem := by
  cases reg <;> rfl

@[simp] theorem write8_pc (reg : Reg8) (v : Byte) (s : State) : (write8 reg v s).pc = s.pc := by
  cases reg <;> rfl
@[simp] theorem write8_sp (reg : Reg8) (v : Byte) (s : State) : (write8 reg v s).sp = s.sp := by
  cases reg <;> rfl
@[simp] theorem write8_iff1 (reg : Reg8) (v : Byte) (s : State) : (write8 reg v s).iff1 = s.iff1 := by
  cases reg <;> rfl
@[simp] theorem write8_iff2 (reg : Reg8) (v : Byte) (s : State) : (write8 reg v s).iff2 = s.iff2 := by
  cases reg <;> rfl
@[simp] theorem write8_im (reg : Reg8) (v : Byte) (s : State) : (write8 reg v s).im = s.im := by
  cases reg <;> rfl
@[simp] theorem write8_halt (reg : Reg8) (v : Byte) (s : State) : (write8 reg v s).halt = s.halt := by
  cases reg <;> rfl
@[simp] theorem write8_intp (reg : Reg8) (v : Byte) (s : State) : (write8 reg v s).intp = s.intp := by
  cases reg <;> rfl
@[simp] theorem write8_nmip (reg : Reg8) (v : Byte) (s : State) : (write8 reg v s).nmip = s.nmip := by
  cases reg <;> rfl
@[simp] theorem write8_tcyc (reg : Reg8) (v : Byte) (s : State) : (write8 reg v s).tcyc = s.tcyc := by
  cases reg <;> rfl
@[simp] theorem write8_fatal (reg : Reg8) (v : Byte) (s : State) : (write8 reg v s).fatal = s.fatal := by
  cases reg <;> rfl
@[simp] theorem write8_fatalInfo (reg : Reg8) (v : Byte) (s : State) : (write8 reg v s).fatalInfo = s.fatalInfo := by
  cases reg <;> rfl
@[simp] theorem write8_mem (reg : Reg8) (v : Byte) (s : State) : (write8 reg v s).mem = s.mem := by
  cases reg <;> rfl

end Sys2Proof.Machine
end

