-- ==== Sys2Proof/Laws/Ops.lean ====
section
/-! SUPPORT. What each shared operation can do, said once: bytes of words, register views, words in
memory, the stack, entering a handler and returning from one. -/

namespace Sys2Proof.Machine

/-! ### Bytes of words (`00_scope.md` R11) -/

theorem getLsbD_joinBytes (h l : Byte) (i : Nat) :
    (joinBytes h l).getLsbD i = if i < 8 then l.getLsbD i else h.getLsbD (i - 8) := by
  have e := BitVec.getLsbD_append (x := h) (y := l) (i := i)
  simpa only [joinBytes, decide_eq_true_eq, Bool.cond_decide] using e

theorem getLsbD_hiByte (w : Word) (i : Nat) :
    (hiByte w).getLsbD i = (decide (i < 8) && w.getLsbD (8 + i)) :=
  BitVec.getLsbD_extractLsb' 8 8 w i

theorem getLsbD_loByte (w : Word) (i : Nat) :
    (loByte w).getLsbD i = (decide (i < 8) && w.getLsbD i) := by
  have e := BitVec.getLsbD_extractLsb' 0 8 w i
  rwa [Nat.zero_add] at e

@[simp] theorem hiByte_joinBytes (h l : Byte) : hiByte (joinBytes h l) = h := by
  refine BitVec.eq_of_getLsbD_eq fun i hi => ?_
  have h8 : ¬ 8 + i < 8 := by omega
  rw [getLsbD_hiByte, getLsbD_joinBytes, if_neg h8, Nat.add_sub_cancel_left, decide_eq_true hi,
    Bool.true_and]

@[simp] theorem loByte_joinBytes (h l : Byte) : loByte (joinBytes h l) = l := by
  refine BitVec.eq_of_getLsbD_eq fun i hi => ?_
  rw [getLsbD_loByte, getLsbD_joinBytes, if_pos hi, decide_eq_true hi, Bool.true_and]

@[simp] theorem joinBytes_hiByte_loByte (w : Word) : joinBytes (hiByte w) (loByte w) = w := by
  refine BitVec.eq_of_getLsbD_eq fun i hi => ?_
  rw [getLsbD_joinBytes]
  split
  · next h => rw [getLsbD_loByte, decide_eq_true h, Bool.true_and]
  · next h =>
    have h8 : i - 8 < 8 := by omega
    have e : 8 + (i - 8) = i := by omega
    rw [getLsbD_hiByte, decide_eq_true h8, Bool.true_and, e]

/-! ### Register views (`10_state.md` R22) -/

@[simp] theorem readReg_writeReg_same (reg : Reg16) (v : Word) (s : State) :
    readReg reg (writeReg reg v s) = v := by
  cases reg <;> rfl

theorem readReg_writeReg_other {reg reg' : Reg16} (h : reg' ≠ reg) (v : Word) (s : State) :
    readReg reg' (writeReg reg v s) = readReg reg' s := by
  cases reg <;> cases reg' <;> first | rfl | exact absurd rfl h

/-- A half reads back as written. -/
@[simp] theorem read8_write8_same (reg : Reg8) (v : Byte) (s : State) :
    read8 reg (write8 reg v s) = v := by
  cases reg <;> simp [read8, write8, Reg8.isHigh, Reg8.home, readReg]

/-- A write of a half changes its own word only. -/
theorem readReg_write8_other {reg : Reg8} {word : Reg16} (h : word ≠ reg.home) (v : Byte) (s : State) :
    readReg word (write8 reg v s) = readReg word s :=
  readReg_writeReg_other h _ s

/-! ### Words in memory (`00_scope.md` R11, `20_memory.md` R66) -/

/-- The byte after an address is another address. -/
theorem word_succ_ne (a : Word) : a + 1 ≠ a := by
  intro h
  have := congrArg BitVec.toNat h
  simp [BitVec.toNat_add] at this
  omega

/-- Every byte after a word is written, for a writability map: low byte at `a`, high byte at `a + 1`,
each lost where the map is false; the rest as before. -/
theorem readByte_writeWordWith (writable : Word → Bool) (a x v : Word) (s : State) :
    readByte x (writeWordWith writable a v s) =
      if writable (a + 1) ∧ x = a + 1 then hiByte v
      else if writable a ∧ x = a then loByte v
      else readByte x s := by
  rw [writeWordWith, readByte_storeByte, readByte_storeByte]

/-- Every byte after a word is written with the default map. -/
theorem readByte_writeWord (a x v : Word) (s : State) :
    readByte x (writeWord a v s) =
      if x = a + 1 then hiByte v else if x = a then loByte v else readByte x s := by
  simp [writeWord, readByte_writeWordWith, Config.writable]

/-- A word reads back as written, at every address, 0xFFFF included. -/
theorem readWord_writeWord (a v : Word) (s : State) : readWord a (writeWord a v s) = v := by
  simp [readWord, readByte_writeWord]

/-! ### The stack (`41_step_sequencer.md` R158, R159) -/

/-- Every byte after one half of `Push16`, for a writability map. -/
theorem readByte_pushByte (writable : Word → Bool) (v : Byte) (x : Word) (s : State) :
    readByte x (pushByte writable v s) =
      if writable (s.sp - 1) ∧ x = s.sp - 1 then v else readByte x s :=
  readByte_storeByte writable (s.sp - 1) x v { s with sp := s.sp - 1 }

/-- Every byte after `Push16(v)`, for a writability map: high byte at SP - 1, low byte at SP - 2, each
lost where the map is false; the rest as before. -/
theorem readByte_push16With (writable : Word → Bool) (v x : Word) (s : State) :
    readByte x (push16With writable v s) =
      if writable (s.sp - 1 - 1) ∧ x = s.sp - 1 - 1 then loByte v
      else if writable (s.sp - 1) ∧ x = s.sp - 1 then hiByte v
      else readByte x s := by
  rw [push16With, readByte_pushByte, readByte_pushByte]
  rfl

/-- `Push16` changes SP and memory only. -/
theorem push16With_eq (writable : Word → Bool) (v : Word) (s : State) :
    push16With writable v s =
      { s with sp := s.sp - 1 - 1, mem := (push16With writable v s).mem } := rfl

/-- Entering a handler changes SP, PC and memory only. -/
theorem enterHandler_eq (writable : Word → Bool) (target : Word) (s : State) :
    enterHandler writable target s =
      { s with sp := s.sp - 1 - 1, pc := target, mem := (push16With writable s.pc s).mem } := rfl

/-- A call changes SP, PC and memory only. -/
theorem callToWith_eq (writable : Word → Bool) (target : Word) (s : State) :
    callToWith writable target s =
      { s with sp := s.sp - 1 - 1, pc := target, mem := (push16With writable s.pc s).mem } := rfl

/-- A return changes SP and PC only. -/
theorem returnPop_eq (s : State) :
    returnPop s = { s with sp := s.sp + 1 + 1, pc := readWord s.sp s } := rfl

/-- The return from an NMI handler changes SP, PC and IFF1 only. -/
theorem returnFromNmi_eq (s : State) :
    returnFromNmi s =
      { s with sp := s.sp + 1 + 1, pc := readWord s.sp s, iff1 := s.iff2 } := rfl

/-- A word of memory seen through a state with the same memory. -/
theorem readWord_congr {s t : State} (h : s.mem = t.mem) (a : Word) : readWord a s = readWord a t := by
  simp [readWord, readByte, h]

end Sys2Proof.Machine
end

