-- ==== Sys2Proof/Laws/Sequencer.lean ====
section
/-! SUPPORT. Everything one call of `step` can do, for any parameters and any table: the four
priorities of `60_exceptions.md` R269, what running a transition function gives, and what a table made
of rows runs. -/

namespace Sys2Proof.Machine

/-! ### Running a transition function (`41_step_sequencer.md` R142, R150 to R153) -/

@[simp] theorem hideSequencer_hideSequencer (s : State) :
    hideSequencer (hideSequencer s) = hideSequencer s := rfl

@[simp] theorem keepSequencer_self (s : State) : keepSequencer s s = s := rfl

@[simp] theorem keepSequencer_hideSequencer (s : State) : keepSequencer s (hideSequencer s) = s := rfl

/-- Two states that differ in the sequencer's own items only look alike to a transition function. -/
theorem hideSequencer_keepSequencer (s t : State) :
    hideSequencer (keepSequencer s t) = hideSequencer t := rfl

/-- A transition function leaves the sequencer's own items as they are, whatever it computes. -/
theorem runExec_eq (d : Descriptor) (ops : List Byte) (s : State) :
    runExec d ops s = keepSequencer s (d.exec ops (hideSequencer s)) := rfl

/-- Running a descriptor always answers a next state: that of its transition function, with the count
added to TCYC and returned. -/
theorem runDescriptor_eq (d : Descriptor) (ops : List Byte) (extra : Nat) (s : State) :
    runDescriptor d ops extra s =
      .next ⟨some (costOf d s.pc (runExec d ops s) + extra),
        { runExec d ops s with
          tcyc := s.tcyc + (costOf d s.pc (runExec d ops s) + extra) }⟩ := rfl

/-! ### The step (`60_exceptions.md` R269, R286) -/

/-- What one call of `step` is, by the state it is called on. -/
theorem stepWith_cases (p : Params) (table : Table) (s : State) :
    (s.fatal = true ∧ stepWith p table s = .fault .sessionOver) ∨
    (s.fatal = false ∧ s.nmip = true ∧
      stepWith p table s = report p.nmiAckCycles (takeNmi p { s with nmip := false })) ∨
    (s.fatal = false ∧ s.nmip = false ∧ s.intp = true ∧ s.iff1 = true ∧
      stepWith p table s = acceptInt p table s { s with intp := false }) ∨
    (s.fatal = false ∧ s.nmip = false ∧ (s.intp && s.iff1) = false ∧ s.halt = true ∧
      stepWith p table s = report p.haltIdleCycles { s with intp := false }) ∨
    (s.fatal = false ∧ s.nmip = false ∧ (s.intp && s.iff1) = false ∧ s.halt = false ∧
      stepWith p table s = ordinaryStep table s { s with intp := false }) := by
  unfold stepWith
  cases s.fatal <;> cases s.nmip <;> cases s.intp <;> cases s.iff1 <;> cases s.halt <;> simp

/-- While FATAL is clear a step answers a next state, for any parameters and any table. -/
theorem stepWith_next (p : Params) (table : Table) {s : State} (h : s.fatal = false) :
    ∃ r, stepWith p table s = .next r := by
  obtain ⟨hf, -⟩ | ⟨-, -, e⟩ | ⟨-, -, -, -, e⟩ | ⟨-, -, -, -, e⟩ | ⟨-, -, -, -, e⟩ :=
    stepWith_cases p table s
  · rw [h] at hf; cases hf
  · exact ⟨_, e⟩
  · rw [e]
    unfold acceptInt
    split
    · unfold acceptInt0
      split <;> exact ⟨_, rfl⟩
    · exact ⟨_, rfl⟩
    · exact ⟨_, rfl⟩
  · exact ⟨_, e⟩
  · rw [e]
    unfold ordinaryStep
    split <;> exact ⟨_, rfl⟩

/-! ### Tables made of rows -/

/-- The row a table made of rows runs at a selector. -/
theorem tableOf_some {p : Params} {rows : List Row} {sel : Nat} {row : Row}
    (h : findRow rows sel = some row) : tableOf p rows sel = rowDescriptor p row := by
  simp only [tableOf, h]

/-- A selector no row maps runs the default (`41_step_sequencer.md` R143). -/
theorem tableOf_none {p : Params} {rows : List Row} {sel : Nat} (h : findRow rows sel = none) :
    tableOf p rows sel = defaultDesc p := by
  simp only [tableOf, h]

end Sys2Proof.Machine
end

