-- ==== Sys2Proof/Laws/Exec.lean ====
section
/-! SUPPORT. What `exec` and `execWith` can do, said once for all instructions. -/

namespace Sys2Proof.Machine

/-- With the default map `execWith` is `exec`. -/
theorem execWith_default (i : Instr) (s : State) : execWith Config.writable i s = exec i s := by
  cases i <;> rfl

/-- Every instruction answers a next state, for any map. -/
theorem execWith_next (writable : Word → Bool) (i : Instr) (s : State) :
    ∃ t, execWith writable i s = .next t := by
  cases i <;> exact ⟨_, rfl⟩

/-- An instruction that does not store runs alike with every map. -/
theorem execWith_of_not_writesMemory (writable : Word → Bool) {i : Instr} (s : State)
    (h : writesMemory i = false) : execWith writable i s = exec i s := by
  cases i <;> first | rfl | cases h

/-- The state a row's descriptor gives is the one its instruction answers. -/
theorem rowDescriptor_exec {p : Params} {row : Row} {ops : List Byte} {s t : State}
    (h : execWith p.writable (row.make ops) s = .next t) :
    (rowDescriptor p row).exec ops s = t := by
  simp only [rowDescriptor, h, answeredState]

/-- Left to itself, no instruction of the table reads or writes the sequencer's own items. -/
theorem runExec_rowDescriptor (p : Params) {row : Row} (h : row ∈ machineRows) (ops : List Byte)
    (s : State) : runExec (rowDescriptor p row) ops s = (rowDescriptor p row).exec ops s := by
  simp only [machineRows, trefRows, trefRows0, trefRows33, trefRows71, trefRows199, trefRows233,
    trefRows382, syntheticRows, List.cons_append, List.nil_append, List.mem_cons, List.not_mem_nil,
    or_false] at h
  rcases h with h | h | h | h | h | h | h | h | h | h | h | h | h | h | h | h | h | h | h | h | h | h |
    h | h | h | h | h | h | h | h | h | h | h | h | h | h | h | h | h | h | h | h | h | h | h | h | h |
    h | h | h | h | h | h | h | h | h | h | h | h | h | h | h | h | h | h | h <;>
    exact h ▸ rfl

/-- What a step of the machine's table runs at a mapped selector. -/
theorem runExec_machineTable {p : Params} {sel : Nat} {row : Row} {ops : List Byte} {s t : State}
    (h : findRow machineRows sel = some row) (e : execWith p.writable (row.make ops) s = .next t) :
    runExec (machineTable p sel) ops s = t := by
  rw [machineTable, tableOf_some h, runExec_rowDescriptor p (findRow_some h).1, rowDescriptor_exec e]

/-- What TREF runs at a mapped selector with the machine's parameters: `exec` of the row's
instruction. -/
theorem runExec_trefTable {sel : Nat} {row : Row} {ops : List Byte} {s t : State}
    (h : findRow trefRows sel = some row) (e : exec (row.make ops) s = .next t) :
    runExec (trefTable Config.params sel) ops s = t := by
  rw [trefTable, tableOf_some h,
    runExec_rowDescriptor Config.params (List.mem_append_left _ (findRow_some h).1)]
  exact rowDescriptor_exec ((execWith_default _ _).trans e)

end Sys2Proof.Machine
end

