-- ==== Sys2Proof/Laws/Flags.lean ====
section
/-! SUPPORT. The bits of the flag masks and of SZYX (`10_state.md` R23, `44_reference_table.md` R201),
and F and A seen through the writes of the arithmetic instructions. -/

namespace Sys2Proof.Machine

/-- A mask has one bit. -/
theorem getLsbD_flagIf (cond : Bool) (fl : Flag) (k : Nat) (hk : k < 8) :
    (flagIf cond fl).getLsbD k = (cond && decide (k = fl.bit)) := by
  revert k
  cases cond <;> cases fl <;> decide

/-- The bits of `SZYX(r)`: S, Z, Y and X from the result, the other four clear. -/
theorem getLsbD_szyx (r : Byte) (k : Nat) (hk : k < 8) :
    (szyx r).getLsbD k =
      match k with
      | 7 => r.getLsbD 7
      | 6 => r == 0
      | 5 => r.getLsbD 5
      | 3 => r.getLsbD 3
      | _ => false := by
  revert r k
  decide

/-- CF kept is bit 0 of the old F. -/
theorem getLsbD_keepCf (f : Byte) (k : Nat) (hk : k < 8) :
    (keepCf f).getLsbD k = (decide (k = 0) && f.getLsbD 0) := by
  revert f k
  decide

end Sys2Proof.Machine
end

