-- ==== Sys2Proof/Laws/PerInstr.lean ====
section
/-! SUPPORT. A law of every instruction as syntax: its encoding is its opcode/prefix sequence and its
operand bytes, one to four bytes, and one lemma per constructor (`30_encoding.md` R80, R81). -/

namespace Sys2Proof.Laws.EncodedLength

/-- The encoding of an instruction has 1 to 4 bytes (R80: `len` is 1, 2 or 3 and the table's `n` is
0, 1 or 2, never more than 4 together). -/
def Statement (i : Instr) : Prop := 1 ≤ (encode i).length ∧ (encode i).length ≤ 4

/-- The two bounds by computing the length, which does not depend on the operand. -/
theorem of_length {i : Instr} (low : Nat.ble 1 (encode i).length = true)
    (high : Nat.ble (encode i).length 4 = true) : Statement i :=
  ⟨Nat.le_of_ble_eq_true low, Nat.le_of_ble_eq_true high⟩

theorem pfxNone (o : Byte) : Statement (.pfxNone o) := of_length rfl rfl
theorem pfxDd (o : Byte) : Statement (.pfxDd o) := of_length rfl rfl
theorem pfxFd (o : Byte) : Statement (.pfxFd o) := of_length rfl rfl
theorem pfxEd (o : Byte) : Statement (.pfxEd o) := of_length rfl rfl
theorem pfxCb (o : Byte) : Statement (.pfxCb o) := of_length rfl rfl
theorem pfxDdDd (o : Byte) : Statement (.pfxDdDd o) := of_length rfl rfl
theorem pfxDdFd (o : Byte) : Statement (.pfxDdFd o) := of_length rfl rfl
theorem pfxDdCb (o : Byte) : Statement (.pfxDdCb o) := of_length rfl rfl
theorem pfxFdDd (o : Byte) : Statement (.pfxFdDd o) := of_length rfl rfl
theorem pfxFdFd (o : Byte) : Statement (.pfxFdFd o) := of_length rfl rfl
theorem pfxFdCb (o : Byte) : Statement (.pfxFdCb o) := of_length rfl rfl
theorem pfxEdDd (o : Byte) : Statement (.pfxEdDd o) := of_length rfl rfl
theorem pfxEdFd (o : Byte) : Statement (.pfxEdFd o) := of_length rfl rfl
theorem pfxEdCb (o : Byte) : Statement (.pfxEdCb o) := of_length rfl rfl
theorem pfxCbDd (o : Byte) : Statement (.pfxCbDd o) := of_length rfl rfl
theorem pfxCbFd (o : Byte) : Statement (.pfxCbFd o) := of_length rfl rfl
theorem pfxCbCb (o : Byte) : Statement (.pfxCbCb o) := of_length rfl rfl
theorem pfxDdEd (o : Byte) : Statement (.pfxDdEd o) := of_length rfl rfl
theorem pfxFdEd (o : Byte) : Statement (.pfxFdEd o) := of_length rfl rfl
theorem pfxEdEd (o : Byte) : Statement (.pfxEdEd o) := of_length rfl rfl
theorem pfxCbEd (o : Byte) : Statement (.pfxCbEd o) := of_length rfl rfl
theorem pfxFatalDdDdDd : Statement (.pfxFatalDdDdDd) := of_length rfl rfl
theorem pfxFatalDdDdFd : Statement (.pfxFatalDdDdFd) := of_length rfl rfl
theorem pfxFatalDdDdEd : Statement (.pfxFatalDdDdEd) := of_length rfl rfl
theorem pfxFatalDdDdCb : Statement (.pfxFatalDdDdCb) := of_length rfl rfl
theorem pfxFatalDdFdDd : Statement (.pfxFatalDdFdDd) := of_length rfl rfl
theorem pfxFatalDdFdFd : Statement (.pfxFatalDdFdFd) := of_length rfl rfl
theorem pfxFatalDdFdEd : Statement (.pfxFatalDdFdEd) := of_length rfl rfl
theorem pfxFatalDdFdCb : Statement (.pfxFatalDdFdCb) := of_length rfl rfl
theorem pfxFatalDdEdDd : Statement (.pfxFatalDdEdDd) := of_length rfl rfl
theorem pfxFatalDdEdFd : Statement (.pfxFatalDdEdFd) := of_length rfl rfl
theorem pfxFatalDdEdEd : Statement (.pfxFatalDdEdEd) := of_length rfl rfl
theorem pfxFatalDdEdCb : Statement (.pfxFatalDdEdCb) := of_length rfl rfl
theorem pfxFatalDdCbDd : Statement (.pfxFatalDdCbDd) := of_length rfl rfl
theorem pfxFatalDdCbFd : Statement (.pfxFatalDdCbFd) := of_length rfl rfl
theorem pfxFatalDdCbEd : Statement (.pfxFatalDdCbEd) := of_length rfl rfl
theorem pfxFatalDdCbCb : Statement (.pfxFatalDdCbCb) := of_length rfl rfl
theorem pfxFatalFdDdDd : Statement (.pfxFatalFdDdDd) := of_length rfl rfl
theorem pfxFatalFdDdFd : Statement (.pfxFatalFdDdFd) := of_length rfl rfl
theorem pfxFatalFdDdEd : Statement (.pfxFatalFdDdEd) := of_length rfl rfl
theorem pfxFatalFdDdCb : Statement (.pfxFatalFdDdCb) := of_length rfl rfl
theorem pfxFatalFdFdDd : Statement (.pfxFatalFdFdDd) := of_length rfl rfl
theorem pfxFatalFdFdFd : Statement (.pfxFatalFdFdFd) := of_length rfl rfl
theorem pfxFatalFdFdEd : Statement (.pfxFatalFdFdEd) := of_length rfl rfl
theorem pfxFatalFdFdCb : Statement (.pfxFatalFdFdCb) := of_length rfl rfl
theorem pfxFatalFdEdDd : Statement (.pfxFatalFdEdDd) := of_length rfl rfl
theorem pfxFatalFdEdFd : Statement (.pfxFatalFdEdFd) := of_length rfl rfl
theorem pfxFatalFdEdEd : Statement (.pfxFatalFdEdEd) := of_length rfl rfl
theorem pfxFatalFdEdCb : Statement (.pfxFatalFdEdCb) := of_length rfl rfl
theorem pfxFatalFdCbDd : Statement (.pfxFatalFdCbDd) := of_length rfl rfl
theorem pfxFatalFdCbFd : Statement (.pfxFatalFdCbFd) := of_length rfl rfl
theorem pfxFatalFdCbEd : Statement (.pfxFatalFdCbEd) := of_length rfl rfl
theorem pfxFatalFdCbCb : Statement (.pfxFatalFdCbCb) := of_length rfl rfl
theorem pfxFatalEdDdDd : Statement (.pfxFatalEdDdDd) := of_length rfl rfl
theorem pfxFatalEdDdFd : Statement (.pfxFatalEdDdFd) := of_length rfl rfl
theorem pfxFatalEdDdEd : Statement (.pfxFatalEdDdEd) := of_length rfl rfl
theorem pfxFatalEdDdCb : Statement (.pfxFatalEdDdCb) := of_length rfl rfl
theorem pfxFatalEdFdDd : Statement (.pfxFatalEdFdDd) := of_length rfl rfl
theorem pfxFatalEdFdFd : Statement (.pfxFatalEdFdFd) := of_length rfl rfl
theorem pfxFatalEdFdEd : Statement (.pfxFatalEdFdEd) := of_length rfl rfl
theorem pfxFatalEdFdCb : Statement (.pfxFatalEdFdCb) := of_length rfl rfl
theorem pfxFatalEdEdDd : Statement (.pfxFatalEdEdDd) := of_length rfl rfl
theorem pfxFatalEdEdFd : Statement (.pfxFatalEdEdFd) := of_length rfl rfl
theorem pfxFatalEdEdEd : Statement (.pfxFatalEdEdEd) := of_length rfl rfl
theorem pfxFatalEdEdCb : Statement (.pfxFatalEdEdCb) := of_length rfl rfl
theorem pfxFatalEdCbDd : Statement (.pfxFatalEdCbDd) := of_length rfl rfl
theorem pfxFatalEdCbFd : Statement (.pfxFatalEdCbFd) := of_length rfl rfl
theorem pfxFatalEdCbEd : Statement (.pfxFatalEdCbEd) := of_length rfl rfl
theorem pfxFatalEdCbCb : Statement (.pfxFatalEdCbCb) := of_length rfl rfl
theorem pfxFatalCbDdDd : Statement (.pfxFatalCbDdDd) := of_length rfl rfl
theorem pfxFatalCbDdFd : Statement (.pfxFatalCbDdFd) := of_length rfl rfl
theorem pfxFatalCbDdEd : Statement (.pfxFatalCbDdEd) := of_length rfl rfl
theorem pfxFatalCbDdCb : Statement (.pfxFatalCbDdCb) := of_length rfl rfl
theorem pfxFatalCbFdDd : Statement (.pfxFatalCbFdDd) := of_length rfl rfl
theorem pfxFatalCbFdFd : Statement (.pfxFatalCbFdFd) := of_length rfl rfl
theorem pfxFatalCbFdEd : Statement (.pfxFatalCbFdEd) := of_length rfl rfl
theorem pfxFatalCbFdCb : Statement (.pfxFatalCbFdCb) := of_length rfl rfl
theorem pfxFatalCbEdDd : Statement (.pfxFatalCbEdDd) := of_length rfl rfl
theorem pfxFatalCbEdFd : Statement (.pfxFatalCbEdFd) := of_length rfl rfl
theorem pfxFatalCbEdEd : Statement (.pfxFatalCbEdEd) := of_length rfl rfl
theorem pfxFatalCbEdCb : Statement (.pfxFatalCbEdCb) := of_length rfl rfl
theorem pfxFatalCbCbDd : Statement (.pfxFatalCbCbDd) := of_length rfl rfl
theorem pfxFatalCbCbFd : Statement (.pfxFatalCbCbFd) := of_length rfl rfl
theorem pfxFatalCbCbEd : Statement (.pfxFatalCbCbEd) := of_length rfl rfl
theorem pfxFatalCbCbCb : Statement (.pfxFatalCbCbCb) := of_length rfl rfl
theorem nop : Statement (.nop) := of_length rfl rfl
theorem ldBcNn (nn : Word) : Statement (.ldBcNn nn) := of_length rfl rfl
theorem incBc : Statement (.incBc) := of_length rfl rfl
theorem decB : Statement (.decB) := of_length rfl rfl
theorem ldBN (n : Byte) : Statement (.ldBN n) := of_length rfl rfl
theorem exAfAf : Statement (.exAfAf) := of_length rfl rfl
theorem decBc : Statement (.decBc) := of_length rfl rfl
theorem djnzE (d : Byte) : Statement (.djnzE d) := of_length rfl rfl
theorem ldDeNn (nn : Word) : Statement (.ldDeNn nn) := of_length rfl rfl
theorem jrE (d : Byte) : Statement (.jrE d) := of_length rfl rfl
theorem jrNzE (d : Byte) : Statement (.jrNzE d) := of_length rfl rfl
theorem ldHlNn (nn : Word) : Statement (.ldHlNn nn) := of_length rfl rfl
theorem ldMemNnHl (nn : Word) : Statement (.ldMemNnHl nn) := of_length rfl rfl
theorem incHl : Statement (.incHl) := of_length rfl rfl
theorem jrZE (d : Byte) : Statement (.jrZE d) := of_length rfl rfl
theorem ldHlMemNn (nn : Word) : Statement (.ldHlMemNn nn) := of_length rfl rfl
theorem decHl : Statement (.decHl) := of_length rfl rfl
theorem ldSpNn (nn : Word) : Statement (.ldSpNn nn) := of_length rfl rfl
theorem ldMemNnA (nn : Word) : Statement (.ldMemNnA nn) := of_length rfl rfl
theorem ldAMemNn (nn : Word) : Statement (.ldAMemNn nn) := of_length rfl rfl
theorem incA : Statement (.incA) := of_length rfl rfl
theorem ldAN (n : Byte) : Statement (.ldAN n) := of_length rfl rfl
theorem ldBA : Statement (.ldBA) := of_length rfl rfl
theorem halt : Statement (.halt) := of_length rfl rfl
theorem ldMemHlA : Statement (.ldMemHlA) := of_length rfl rfl
theorem ldAB : Statement (.ldAB) := of_length rfl rfl
theorem ldAMemHl : Statement (.ldAMemHl) := of_length rfl rfl
theorem addAB : Statement (.addAB) := of_length rfl rfl
theorem xorA : Statement (.xorA) := of_length rfl rfl
theorem popBc : Statement (.popBc) := of_length rfl rfl
theorem jpNzNn (nn : Word) : Statement (.jpNzNn nn) := of_length rfl rfl
theorem jpNn (nn : Word) : Statement (.jpNn nn) := of_length rfl rfl
theorem pushBc : Statement (.pushBc) := of_length rfl rfl
theorem rst00 : Statement (.rst00) := of_length rfl rfl
theorem ret : Statement (.ret) := of_length rfl rfl
theorem jpZNn (nn : Word) : Statement (.jpZNn nn) := of_length rfl rfl
theorem callNn (nn : Word) : Statement (.callNn nn) := of_length rfl rfl
theorem rst08 : Statement (.rst08) := of_length rfl rfl
theorem rst10 : Statement (.rst10) := of_length rfl rfl
theorem exx : Statement (.exx) := of_length rfl rfl
theorem rst18 : Statement (.rst18) := of_length rfl rfl
theorem popHl : Statement (.popHl) := of_length rfl rfl
theorem pushHl : Statement (.pushHl) := of_length rfl rfl
theorem rst20 : Statement (.rst20) := of_length rfl rfl
theorem jpHl : Statement (.jpHl) := of_length rfl rfl
theorem exDeHl : Statement (.exDeHl) := of_length rfl rfl
theorem rst28 : Statement (.rst28) := of_length rfl rfl
theorem popAf : Statement (.popAf) := of_length rfl rfl
theorem di : Statement (.di) := of_length rfl rfl
theorem pushAf : Statement (.pushAf) := of_length rfl rfl
theorem rst30 : Statement (.rst30) := of_length rfl rfl
theorem ldSpHl : Statement (.ldSpHl) := of_length rfl rfl
theorem ei : Statement (.ei) := of_length rfl rfl
theorem rst38 : Statement (.rst38) := of_length rfl rfl
theorem ldIxNn (nn : Word) : Statement (.ldIxNn nn) := of_length rfl rfl
theorem ldAIxd (d : Byte) : Statement (.ldAIxd d) := of_length rfl rfl
theorem ldIyNn (nn : Word) : Statement (.ldIyNn nn) := of_length rfl rfl
theorem retn : Statement (.retn) := of_length rfl rfl
theorem im0 : Statement (.im0) := of_length rfl rfl
theorem ldIA : Statement (.ldIA) := of_length rfl rfl
theorem im1 : Statement (.im1) := of_length rfl rfl
theorem ldAI : Statement (.ldAI) := of_length rfl rfl
theorem im2 : Statement (.im2) := of_length rfl rfl
theorem rlcB : Statement (.rlcB) := of_length rfl rfl
theorem synJcond (d : Byte) : Statement (.synJcond d) := of_length rfl rfl
theorem synPlain (d : Byte) : Statement (.synPlain d) := of_length rfl rfl

end Sys2Proof.Laws.EncodedLength
end

