-- ==== Sys2Proof/Tests/Slice0.lean ====
section
/-! SUPPORT. The model's own tests: ill-formed terms that WellFormed refuses, words written out from the
spec's encodings, and single steps whose expected results are the vectors of `95_test_vectors.md`
(named by their ids) or the worked examples of the rules. -/

namespace Sys2Proof.Tests

open Sys2Proof.Machine

/-! ### WellFormed -/

/-- A pattern constructor whose final byte is a prefix byte is refused (R84: the final byte is never
one). -/
theorem test_prefix_final_byte_ill_formed : (Instr.pfxDd 0xED).wellFormed = false := by decide

/-- A pattern constructor of a selector TREF maps is refused (selector 289 is LD IX,nn, R223). -/
theorem test_mapped_selector_ill_formed : (Instr.pfxDd 0x21).wellFormed = false := by decide

/-- An unmapped word of the pattern DD is well formed. -/
theorem test_unmapped_word_well_formed : (Instr.pfxDd 0x22).wellFormed = true := by decide

/-- WellFormed's list of mapped selectors is the list of the table's rows, in order (R258, R175). -/
theorem test_mapped_selectors_are_the_rows : machineRows.map Row.sel = mappedSelectors := by decide

/-! ### Decoding: every constructor from a word of the spec's encoding -/

/-- The instructions of some byte sequences. -/
def decoded (words : List (List Byte)) : List Instr :=
  words.map fun bytes => (decode (listSource bytes)).instr

/-- One unmapped word of each of the 21 patterns (R113 to R133). -/
theorem test_decode_patterns :
    decoded
    [[0x90], [0xDD, 0xA5], [0xFD, 0xA5], [0xED, 0xA5], [0xCB, 0xA5], [0xDD, 0xDD, 0xA5],
     [0xDD, 0xFD, 0xA5], [0xDD, 0xCB, 0xA5], [0xFD, 0xDD, 0xA5], [0xFD, 0xFD, 0xA5],
     [0xFD, 0xCB, 0xA5], [0xED, 0xDD, 0xA5], [0xED, 0xFD, 0xA5], [0xED, 0xCB, 0xA5],
     [0xCB, 0xDD, 0xA5], [0xCB, 0xFD, 0xA5], [0xCB, 0xCB, 0xA5], [0xDD, 0xED, 0xA5],
     [0xFD, 0xED, 0xA5], [0xED, 0xED, 0xA5], [0xCB, 0xED, 0xA5]] =
    [.pfxNone 0x90, .pfxDd 0xA5, .pfxFd 0xA5, .pfxEd 0xA5, .pfxCb 0xA5, .pfxDdDd 0xA5,
     .pfxDdFd 0xA5, .pfxDdCb 0xA5, .pfxFdDd 0xA5, .pfxFdFd 0xA5, .pfxFdCb 0xA5, .pfxEdDd 0xA5,
     .pfxEdFd 0xA5, .pfxEdCb 0xA5, .pfxCbDd 0xA5, .pfxCbFd 0xA5, .pfxCbCb 0xA5, .pfxDdEd 0xA5,
     .pfxFdEd 0xA5, .pfxEdEd 0xA5, .pfxCbEd 0xA5] := by
  decide

/-- The 16 three-prefix sequences that begin with DD (R134). -/
theorem test_decode_fatal_dd :
    decoded
    [[0xDD, 0xDD, 0xDD], [0xDD, 0xDD, 0xFD], [0xDD, 0xDD, 0xED], [0xDD, 0xDD, 0xCB],
     [0xDD, 0xFD, 0xDD], [0xDD, 0xFD, 0xFD], [0xDD, 0xFD, 0xED], [0xDD, 0xFD, 0xCB],
     [0xDD, 0xED, 0xDD], [0xDD, 0xED, 0xFD], [0xDD, 0xED, 0xED], [0xDD, 0xED, 0xCB],
     [0xDD, 0xCB, 0xDD], [0xDD, 0xCB, 0xFD], [0xDD, 0xCB, 0xED], [0xDD, 0xCB, 0xCB]] =
    [.pfxFatalDdDdDd, .pfxFatalDdDdFd, .pfxFatalDdDdEd, .pfxFatalDdDdCb, .pfxFatalDdFdDd,
     .pfxFatalDdFdFd, .pfxFatalDdFdEd, .pfxFatalDdFdCb, .pfxFatalDdEdDd, .pfxFatalDdEdFd,
     .pfxFatalDdEdEd, .pfxFatalDdEdCb, .pfxFatalDdCbDd, .pfxFatalDdCbFd, .pfxFatalDdCbEd,
     .pfxFatalDdCbCb] := by
  decide

/-- The 16 three-prefix sequences that begin with FD (R134). -/
theorem test_decode_fatal_fd :
    decoded
    [[0xFD, 0xDD, 0xDD], [0xFD, 0xDD, 0xFD], [0xFD, 0xDD, 0xED], [0xFD, 0xDD, 0xCB],
     [0xFD, 0xFD, 0xDD], [0xFD, 0xFD, 0xFD], [0xFD, 0xFD, 0xED], [0xFD, 0xFD, 0xCB],
     [0xFD, 0xED, 0xDD], [0xFD, 0xED, 0xFD], [0xFD, 0xED, 0xED], [0xFD, 0xED, 0xCB],
     [0xFD, 0xCB, 0xDD], [0xFD, 0xCB, 0xFD], [0xFD, 0xCB, 0xED], [0xFD, 0xCB, 0xCB]] =
    [.pfxFatalFdDdDd, .pfxFatalFdDdFd, .pfxFatalFdDdEd, .pfxFatalFdDdCb, .pfxFatalFdFdDd,
     .pfxFatalFdFdFd, .pfxFatalFdFdEd, .pfxFatalFdFdCb, .pfxFatalFdEdDd, .pfxFatalFdEdFd,
     .pfxFatalFdEdEd, .pfxFatalFdEdCb, .pfxFatalFdCbDd, .pfxFatalFdCbFd, .pfxFatalFdCbEd,
     .pfxFatalFdCbCb] := by
  decide

/-- The 16 three-prefix sequences that begin with ED (R134). -/
theorem test_decode_fatal_ed :
    decoded
    [[0xED, 0xDD, 0xDD], [0xED, 0xDD, 0xFD], [0xED, 0xDD, 0xED], [0xED, 0xDD, 0xCB],
     [0xED, 0xFD, 0xDD], [0xED, 0xFD, 0xFD], [0xED, 0xFD, 0xED], [0xED, 0xFD, 0xCB],
     [0xED, 0xED, 0xDD], [0xED, 0xED, 0xFD], [0xED, 0xED, 0xED], [0xED, 0xED, 0xCB],
     [0xED, 0xCB, 0xDD], [0xED, 0xCB, 0xFD], [0xED, 0xCB, 0xED], [0xED, 0xCB, 0xCB]] =
    [.pfxFatalEdDdDd, .pfxFatalEdDdFd, .pfxFatalEdDdEd, .pfxFatalEdDdCb, .pfxFatalEdFdDd,
     .pfxFatalEdFdFd, .pfxFatalEdFdEd, .pfxFatalEdFdCb, .pfxFatalEdEdDd, .pfxFatalEdEdFd,
     .pfxFatalEdEdEd, .pfxFatalEdEdCb, .pfxFatalEdCbDd, .pfxFatalEdCbFd, .pfxFatalEdCbEd,
     .pfxFatalEdCbCb] := by
  decide

/-- The 16 three-prefix sequences that begin with CB (R134). -/
theorem test_decode_fatal_cb :
    decoded
    [[0xCB, 0xDD, 0xDD], [0xCB, 0xDD, 0xFD], [0xCB, 0xDD, 0xED], [0xCB, 0xDD, 0xCB],
     [0xCB, 0xFD, 0xDD], [0xCB, 0xFD, 0xFD], [0xCB, 0xFD, 0xED], [0xCB, 0xFD, 0xCB],
     [0xCB, 0xED, 0xDD], [0xCB, 0xED, 0xFD], [0xCB, 0xED, 0xED], [0xCB, 0xED, 0xCB],
     [0xCB, 0xCB, 0xDD], [0xCB, 0xCB, 0xFD], [0xCB, 0xCB, 0xED], [0xCB, 0xCB, 0xCB]] =
    [.pfxFatalCbDdDd, .pfxFatalCbDdFd, .pfxFatalCbDdEd, .pfxFatalCbDdCb, .pfxFatalCbFdDd,
     .pfxFatalCbFdFd, .pfxFatalCbFdEd, .pfxFatalCbFdCb, .pfxFatalCbEdDd, .pfxFatalCbEdFd,
     .pfxFatalCbEdEd, .pfxFatalCbEdCb, .pfxFatalCbCbDd, .pfxFatalCbCbFd, .pfxFatalCbCbEd,
     .pfxFatalCbCbCb] := by
  decide

/-- The encodings of selectors 0 to 62 (R258, R175); `nn` is 0x1234, `n` and `d` are 0xFE. -/
theorem test_decode_table_1 :
    decoded
    [[0x00], [0x01, 0x34, 0x12], [0x03], [0x05], [0x06, 0xFE], [0x08], [0x0B], [0x10, 0xFE],
     [0x11, 0x34, 0x12], [0x18, 0xFE], [0x20, 0xFE], [0x21, 0x34, 0x12], [0x22, 0x34, 0x12],
     [0x23], [0x28, 0xFE], [0x2A, 0x34, 0x12], [0x2B], [0x31, 0x34, 0x12], [0x32, 0x34, 0x12],
     [0x3A, 0x34, 0x12], [0x3C], [0x3E, 0xFE]] =
    [.nop, .ldBcNn 0x1234, .incBc, .decB, .ldBN 0xFE, .exAfAf, .decBc, .djnzE 0xFE,
     .ldDeNn 0x1234, .jrE 0xFE, .jrNzE 0xFE, .ldHlNn 0x1234, .ldMemNnHl 0x1234, .incHl,
     .jrZE 0xFE, .ldHlMemNn 0x1234, .decHl, .ldSpNn 0x1234, .ldMemNnA 0x1234, .ldAMemNn 0x1234,
     .incA, .ldAN 0xFE] := by
  decide

/-- The encodings of selectors 71 to 231 (R258, R175); `nn` is 0x1234, `n` and `d` are 0xFE. -/
theorem test_decode_table_2 :
    decoded
    [[0x47], [0x76], [0x77], [0x78], [0x7E], [0x80], [0xAF], [0xC1], [0xC2, 0x34, 0x12],
     [0xC3, 0x34, 0x12], [0xC5], [0xC7], [0xC9], [0xCA, 0x34, 0x12], [0xCD, 0x34, 0x12], [0xCF],
     [0xD7], [0xD9], [0xDF], [0xE1], [0xE5], [0xE7]] =
    [.ldBA, .halt, .ldMemHlA, .ldAB, .ldAMemHl, .addAB, .xorA, .popBc, .jpNzNn 0x1234,
     .jpNn 0x1234, .pushBc, .rst00, .ret, .jpZNn 0x1234, .callNn 0x1234, .rst08, .rst10, .exx,
     .rst18, .popHl, .pushHl, .rst20] := by
  decide

/-- The encodings of selectors 233 to 3327 (R258, R175); `nn` is 0x1234, `n` and `d` are 0xFE. -/
theorem test_decode_table_3 :
    decoded
    [[0xE9], [0xEB], [0xEF], [0xF1], [0xF3], [0xF5], [0xF7], [0xF9], [0xFB], [0xFF],
     [0xDD, 0x21, 0x34, 0x12], [0xDD, 0x7E, 0xFE], [0xFD, 0x21, 0x34, 0x12], [0xED, 0x45],
     [0xED, 0x46], [0xED, 0x47], [0xED, 0x56], [0xED, 0x57], [0xED, 0x5E], [0xCB, 0x00],
     [0xCB, 0xCB, 0xFE, 0xFE], [0xCB, 0xCB, 0xFF, 0xFE]] =
    [.jpHl, .exDeHl, .rst28, .popAf, .di, .pushAf, .rst30, .ldSpHl, .ei, .rst38, .ldIxNn 0x1234,
     .ldAIxd 0xFE, .ldIyNn 0x1234, .retn, .im0, .ldIA, .im1, .ldAI, .im2, .rlcB, .synJcond 0xFE,
     .synPlain 0xFE] := by
  decide

/-- The numbers of the opcode table have the byte at PC the most significant (R94): DD 21 is
0xDD21, LD IX,nn; CB CB FE is 0xCBCBFE, SYN.JCOND. -/
theorem test_decode_table_words :
    [decodeTableWord 16 0xDD21, decodeTableWord 24 0xCBCBFE, decodeTableWord 8 0x76] =
    [some (.ldIxNn 0), some (.synJcond 0), some .halt] := by
  decide

/-- The selectors and lengths of `95_test_vectors.md` section 2.1: VD1, VD4, VD6, VD7, VD9, VD11 to
VD22. -/
theorem test_selectors :
    [[0x00], [0xDD, 0x21], [0xFD, 0x21], [0xED, 0x47], [0xCB, 0x00], [0xDD, 0xDD, 0x21],
     [0xDD, 0xFD, 0x21], [0xDD, 0xCB, 0x05], [0xFD, 0xDD, 0x21], [0xFD, 0xFD, 0x00],
     [0xFD, 0xCB, 0x05], [0xED, 0xDD, 0x00], [0xED, 0xFD, 0x05], [0xED, 0xCB, 0x00],
     [0xCB, 0xDD, 0x05], [0xCB, 0xFD, 0x05], [0xCB, 0xCB, 0xFF]].map
      (fun bytes => decodeSelector (listSource bytes)) =
    [.ok 0 1, .ok 289 2, .ok 545 2, .ok 839 2, .ok 1024 2, .ok 1569 3, .ok 1825 3, .ok 2309 3,
     .ok 1825 3, .ok 2048 3, .ok 2565 3, .ok 2048 3, .ok 2309 3, .ok 2816 3, .ok 2309 3,
     .ok 2565 3, .ok 3327 3] := by
  decide

/-- The collisions VD23 to VD26 and the fatal sequences VD27 to VD29. -/
theorem test_collisions_and_fatal :
    [[0xDD, 0xED, 0x47], [0xFD, 0xED, 0x47], [0xED, 0xED, 0x47], [0xCB, 0xED, 0x47],
     [0xDD, 0xCB, 0xDD], [0xED, 0xED, 0xED], [0xDD, 0xED, 0xCB]].map
      (fun bytes => decodeSelector (listSource bytes)) =
    [.ok 839 3, .ok 839 3, .ok 839 3, .ok 839 3, .fatal 0xDD 0xCB 0xDD, .fatal 0xED 0xED 0xED,
     .fatal 0xDD 0xED 0xCB] := by
  decide

/-! ### Single steps -/

/-- The start state of the vectors: reset, SP = 8000, the bytes at `pc`, PC there. -/
def start (pc : Word) (bytes : List Byte) : State :=
  placeBytes (listSource bytes) pc bytes.length { State.reset with pc := pc, sp := 0x8000 }

/-- A state with a word written to memory, low byte first. -/
def withWord (a w : Word) (s : State) : State := writeWord a w s

/-- The machine's parameters with a device that supplies some bytes, then FF. -/
def supplying (dev : List Byte) : Params := { Config.params with intDevice := fun i => dev.getD i 0xFF }

/-- One step with given parameters; what it returns. -/
def runOf (p : Params) (s : State) : Option Returned :=
  match stepReturnedOf p s with
  | .next r => some r
  | .fault _ => none
  | .refused _ => none

/-- One step with a device that supplies some bytes, then FF; what it returns. -/
def run (dev : List Byte) (s : State) : Option Returned := runOf (supplying dev) s

/-- A view of the state one step leaves, with the count the step returned. -/
def after {α : Type} (s : State) (view : State → α) : Option (Option Nat × α) :=
  (run [] s).map fun r => (r.cycles, view r.state)

/-- A view of the state after a step with the device's bytes. -/
def afterWith {α : Type} (dev : List Byte) (s : State) (view : State → α) :
    Option (Option Nat × α) :=
  (run dev s).map fun r => (r.cycles, view r.state)

/-- VT1. -/
theorem test_nop :
    after (start 0x0100 [0x00])
      (fun t => (t.pc, t.af, t.tcyc)) =
    some (some 4, (0x0101, 0xFFFF, 4)) := by
  decide

/-- VT4: an unmapped word passes over its three bytes only. -/
theorem test_unmapped_word :
    after (start 0x0100 [0xDD, 0xCB, 0x05, 0x46])
      (fun t => (t.pc, t.af, t.bc)) =
    some (some 4, (0x0103, 0xFFFF, 0xFFFF)) := by
  decide

/-- VT3. -/
theorem test_unmapped_word_cost :
    after (start 0x0100 [0xED, 0x00])
      (fun t => (t.pc, t.tcyc)) =
    some (some 4, (0x0102, 4)) := by
  decide

/-- VT16: nothing changes but FATAL and its record. -/
theorem test_fatal :
    after (start 0x0005 [0xDD, 0xCB, 0xDD])
      (fun t => (t.pc, t.tcyc, t.fatal, t.fatalInfo)) =
    some (none, (0x0005, 0, true, some ⟨0x0005, 0xDD, 0xCB, 0xDD⟩)) := by
  decide

/-- VT11, S1: the operand byte is read at 0000. -/
theorem test_operand_wraps :
    after (start 0xFFFF [0x3E, 0x2A])
      (fun t => (t.af, t.pc)) =
    some (some 7, (0x2AFF, 0x0001)) := by
  decide

/-- VT12. -/
theorem test_decode_wraps :
    after (start 0xFFFF [0xDD, 0x21, 0x00, 0x90])
      (fun t => (t.ix, t.pc)) =
    some (some 14, (0x9000, 0x0003)) := by
  decide

/-- VT13. -/
theorem test_collision_wraps :
    after { start 0xFFFE [0xFD, 0xED, 0x47] with af := 0x55FF }
      (fun t => (t.ir, t.pc)) =
    some (some 9, (0x55FF, 0x0001)) := by
  decide

/-- VM1. -/
theorem test_halt :
    after (start 0x0006 [0x76])
      (fun t => (t.halt, t.pc)) =
    some (some 4, (true, 0x0007)) := by
  decide

/-- VM2. -/
theorem test_exx :
    after { start 0x0100 [0xD9] with bc := 0x1111, bcx := 0x2222, de := 0x3333, dex := 0x4444, hl := 0x5555, hlx := 0x6666, af := 0x1234, afx := 0x5678 }
      (fun t => (t.bc, t.bcx, t.de, t.dex, t.hl, t.hlx, t.af, t.afx)) =
    some (some 4, (0x2222, 0x1111, 0x4444, 0x3333, 0x6666, 0x5555, 0x1234, 0x5678)) := by
  decide

/-- VM3. -/
theorem test_ex_af_af :
    after { start 0x0100 [0x08] with af := 0x12D7, afx := 0x3400 }
      (fun t => (t.af, t.afx)) =
    some (some 4, (0x3400, 0x12D7)) := by
  decide

/-- VL23. -/
theorem test_ex_de_hl :
    after { start 0x0100 [0xEB] with de := 1, hl := 2 }
      (fun t => (t.de, t.hl)) =
    some (some 4, (0x0002, 0x0001)) := by
  decide

/-- VL1, VT15: an operand byte that is a prefix value is not decoded. -/
theorem test_ld_a_n :
    after (start 0x0100 [0x3E, 0xDD])
      (fun t => (t.af, t.pc)) =
    some (some 7, (0xDDFF, 0x0102)) := by
  decide

/-- VL2. -/
theorem test_ld_b_n :
    after (start 0x0100 [0x06, 0x03])
      (fun t => (t.bc, t.pc)) =
    some (some 7, (0x03FF, 0x0102)) := by
  decide

/-- VL3. -/
theorem test_ld_a_b :
    after { start 0x0100 [0x78] with bc := 0x5500 }
      (fun t => (t.af, t.bc)) =
    some (some 4, (0x55FF, 0x5500)) := by
  decide

/-- VL4. -/
theorem test_ld_b_a :
    after { start 0x0100 [0x47] with af := 0x1200, bc := 0xAB34 }
      (fun t => t.bc) =
    some (some 4, 0x1234) := by
  decide

/-- VL5. -/
theorem test_ld_mem_hl_a :
    after { start 0x0100 [0x77] with hl := 0x9000, af := 0x0700 }
      (fun t => readByte 0x9000 t) =
    some (some 7, 0x07) := by
  decide

/-- VL6. -/
theorem test_ld_a_mem_hl :
    after (withWord 0x9000 0x0007 { start 0x0100 [0x7E] with hl := 0x9000 })
      (fun t => t.af) =
    some (some 7, 0x07FF) := by
  decide

/-- VL7. -/
theorem test_ld_mem_nn_a :
    after { start 0x0100 [0x32, 0x00, 0x90] with af := 0x2A00 }
      (fun t => (readByte 0x9000 t, t.pc)) =
    some (some 13, (0x2A, 0x0103)) := by
  decide

/-- VL8. -/
theorem test_ld_a_mem_nn :
    after (withWord 0x9000 0x002A (start 0x0100 [0x3A, 0x00, 0x90]))
      (fun t => t.af) =
    some (some 13, 0x2AFF) := by
  decide

/-- VL9. -/
theorem test_ld_a_ixd :
    after (withWord 0x8FFF 0x0099 { start 0x0100 [0xDD, 0x7E, 0xFF] with ix := 0x9000 })
      (fun t => (t.af, t.pc)) =
    some (some 19, (0x99FF, 0x0103)) := by
  decide

/-- VL12. -/
theorem test_ld_a_ixd_wraps :
    after (withWord 0x0000 0x0031 { start 0x0100 [0xDD, 0x7E, 0x01] with ix := 0xFFFF })
      (fun t => t.af) =
    some (some 19, 0x31FF) := by
  decide

/-- The example of its rule (`01 34 12`). -/
theorem test_ld_bc_nn :
    after (start 0x0100 [0x01, 0x34, 0x12])
      (fun t => (t.bc, t.pc)) =
    some (some 10, (0x1234, 0x0103)) := by
  decide

/-- The example of its rule (`11 34 12`). -/
theorem test_ld_de_nn :
    after (start 0x0100 [0x11, 0x34, 0x12])
      (fun t => (t.de, t.pc)) =
    some (some 10, (0x1234, 0x0103)) := by
  decide

/-- The example of its rule (`21 34 12`). -/
theorem test_ld_hl_nn :
    after (start 0x0100 [0x21, 0x34, 0x12])
      (fun t => (t.hl, t.pc)) =
    some (some 10, (0x1234, 0x0103)) := by
  decide

/-- The example of its rule (`31 34 12`). -/
theorem test_ld_sp_nn :
    after (start 0x0100 [0x31, 0x34, 0x12])
      (fun t => (t.sp, t.pc)) =
    some (some 10, (0x1234, 0x0103)) := by
  decide

/-- VL17. -/
theorem test_ld_ix_nn :
    after (start 0x0100 [0xDD, 0x21, 0x00, 0x90])
      (fun t => (t.ix, t.pc)) =
    some (some 14, (0x9000, 0x0104)) := by
  decide

/-- VL18. -/
theorem test_ld_iy_nn :
    after (start 0x0100 [0xFD, 0x21, 0x00, 0xA0])
      (fun t => (t.iy, t.pc)) =
    some (some 14, (0xA000, 0x0104)) := by
  decide

/-- VL20. -/
theorem test_ld_mem_nn_hl_wraps :
    after { start 0x0100 [0x22, 0xFF, 0xFF] with hl := 0x1234 }
      (fun t => (readByte 0xFFFF t, readByte 0x0000 t)) =
    some (some 16, (0x34, 0x12)) := by
  decide

/-- VL21. -/
theorem test_ld_hl_mem_nn :
    after (withWord 0x9000 0x1234 (start 0x0100 [0x2A, 0x00, 0x90]))
      (fun t => t.hl) =
    some (some 16, 0x1234) := by
  decide

/-- VL22. -/
theorem test_ld_sp_hl :
    after { start 0x0100 [0xF9] with hl := 0x9000 }
      (fun t => t.sp) =
    some (some 6, 0x9000) := by
  decide

/-- VF2. -/
theorem test_inc_a_vf2 :
    after { start 0x0100 [0x3C] with af := 0x00FF }
      (fun t => t.af) =
    some (some 4, 0x0101) := by
  decide

/-- VF5. -/
theorem test_inc_a_vf5 :
    after { start 0x0100 [0x3C] with af := 0x7FFF }
      (fun t => t.af) =
    some (some 4, 0x8095) := by
  decide

/-- VF10. -/
theorem test_dec_b_vf10 :
    after { start 0x0100 [0x05] with bc := 0x0034, af := 0xFFFF }
      (fun t => (t.bc, t.af)) =
    some (some 4, (0xFF34, 0xFFBB)) := by
  decide

/-- VF13. -/
theorem test_dec_b_vf13 :
    after { start 0x0100 [0x05] with bc := 0x80FF, af := 0xFF00 }
      (fun t => (t.bc, t.af)) =
    some (some 4, (0x7FFF, 0xFF3E)) := by
  decide

/-- VF17. -/
theorem test_add_a_b_vf17 :
    after { start 0x0100 [0x80] with af := 0x80FF, bc := 0x80FF }
      (fun t => t.af) =
    some (some 4, 0x0045) := by
  decide

/-- VF22. -/
theorem test_add_a_b_vf22 :
    after { start 0x0100 [0x80] with af := 0xFF00, bc := 0xFFFF }
      (fun t => t.af) =
    some (some 4, 0xFEB9) := by
  decide

/-- VF23. -/
theorem test_xor_a :
    after { start 0x0100 [0xAF] with af := 0x5AFF }
      (fun t => t.af) =
    some (some 4, 0x0044) := by
  decide

/-- VF27. -/
theorem test_rlc_b_vf27 :
    after { start 0x0100 [0xCB, 0x00] with bc := 0x81FF }
      (fun t => (t.bc, t.af)) =
    some (some 8, (0x03FF, 0xFF05)) := by
  decide

/-- VF31. -/
theorem test_rlc_b_vf31 :
    after { start 0x0100 [0xCB, 0x00] with bc := 0x55FF }
      (fun t => (t.bc, t.af)) =
    some (some 8, (0xAAFF, 0xFFAC)) := by
  decide

/-- VF32. -/
theorem test_ld_a_i_vf32 :
    after { start 0x0100 [0xED, 0x57] with ir := 0x8000, iff2 := true }
      (fun t => t.af) =
    some (some 9, 0x8085) := by
  decide

/-- VF34. -/
theorem test_ld_a_i_vf34 :
    after { start 0x0100 [0xED, 0x57] with ir := 0x2800, iff2 := true, af := 0xFF00 }
      (fun t => t.af) =
    some (some 9, 0x282C) := by
  decide

/-- VF36. -/
theorem test_inc_bc :
    after { start 0x0100 [0x03] with af := 0xFF00 }
      (fun t => (t.bc, t.af)) =
    some (some 6, (0x0000, 0xFF00)) := by
  decide

/-- VF38. -/
theorem test_dec_bc :
    after { start 0x0100 [0x0B] with bc := 0x0100 }
      (fun t => (t.bc, t.af)) =
    some (some 6, (0x00FF, 0xFFFF)) := by
  decide

/-- VF39. -/
theorem test_inc_hl :
    after { start 0x0100 [0x23] with hl := 0x9000 }
      (fun t => t.hl) =
    some (some 6, 0x9001) := by
  decide

/-- VF39. -/
theorem test_dec_hl :
    after { start 0x0100 [0x2B] with hl := 0x0000 }
      (fun t => t.hl) =
    some (some 6, 0xFFFF) := by
  decide

/-- VT9: a jump to the post-fetch PC. -/
theorem test_jp_nn :
    after (start 0x0100 [0xC3, 0x03, 0x01])
      (fun t => t.pc) =
    some (some 10, 0x0103) := by
  decide

/-- VJ2. -/
theorem test_jp_nz_taken :
    after { start 0x0100 [0xC2, 0x00, 0x10] with af := 0xFF00 }
      (fun t => t.pc) =
    some (some 10, 0x1000) := by
  decide

/-- VJ3. -/
theorem test_jp_nz_not_taken :
    after (start 0x0100 [0xC2, 0x00, 0x10])
      (fun t => t.pc) =
    some (some 10, 0x0103) := by
  decide

/-- VJ4. -/
theorem test_jp_z_taken :
    after (start 0x0100 [0xCA, 0x00, 0x10])
      (fun t => t.pc) =
    some (some 10, 0x1000) := by
  decide

/-- VJ5. -/
theorem test_jp_z_not_taken :
    after { start 0x0100 [0xCA, 0x00, 0x10] with af := 0xFF00 }
      (fun t => t.pc) =
    some (some 10, 0x0103) := by
  decide

/-- VJ6. -/
theorem test_jp_hl :
    after { start 0x0100 [0xE9] with hl := 0x4000 }
      (fun t => t.pc) =
    some (some 4, 0x4000) := by
  decide

/-- VJ8. -/
theorem test_jr_wraps :
    after (start 0x0010 [0x18, 0x80])
      (fun t => t.pc) =
    some (some 12, 0xFF92) := by
  decide

/-- VT6. -/
theorem test_jr_nz_taken :
    after { start 0x0010 [0x20, 0xFB] with af := 0xFF00 }
      (fun t => t.pc) =
    some (some 12, 0x000D) := by
  decide

/-- VT8: taken to the post-fetch PC, so the base cost. -/
theorem test_jr_nz_to_next :
    after { start 0x0010 [0x20, 0x00] with af := 0xFF00 }
      (fun t => t.pc) =
    some (some 7, 0x0012) := by
  decide

/-- VJ10. -/
theorem test_jr_z_taken :
    after (start 0x0010 [0x28, 0x02])
      (fun t => t.pc) =
    some (some 12, 0x0014) := by
  decide

/-- VJ11. -/
theorem test_jr_z_not_taken :
    after { start 0x0010 [0x28, 0x02] with af := 0xFF00 }
      (fun t => t.pc) =
    some (some 7, 0x0012) := by
  decide

/-- VJ13. -/
theorem test_djnz_falls_through :
    after { start 0x000C [0x10, 0xFB] with bc := 0x01FF }
      (fun t => (t.bc, t.pc, t.af)) =
    some (some 8, (0x00FF, 0x000E, 0xFFFF)) := by
  decide

/-- VJ14. -/
theorem test_djnz_from_zero :
    after { start 0x000C [0x10, 0xFB] with bc := 0x00FF }
      (fun t => (t.bc, t.pc)) =
    some (some 13, (0xFFFF, 0x0009)) := by
  decide

/-- VJ16: the pushed post-fetch PC is wrapped. -/
theorem test_call :
    after (withWord 0x7FFE 0x1111 (start 0xFFFD [0xCD, 0x05, 0x00]))
      (fun t => (t.pc, t.sp, readWord 0x7FFE t)) =
    some (some 17, (0x0005, 0x7FFE, 0x0000)) := by
  decide

/-- VJ17. -/
theorem test_call_stack_wraps :
    after { start 0x0100 [0xCD, 0x34, 0x12] with sp := 1 }
      (fun t => (t.pc, t.sp, readByte 0x0000 t, readByte 0xFFFF t)) =
    some (some 17, (0x1234, 0xFFFF, 0x01, 0x03)) := by
  decide

/-- VJ19. -/
theorem test_ret :
    after (withWord 0xFFFF 0x1234 { start 0x0100 [0xC9] with sp := 0xFFFF })
      (fun t => (t.pc, t.sp)) =
    some (some 10, (0x1234, 0x0001)) := by
  decide

/-- VJ20. -/
theorem test_retn :
    after (withWord 0x7FFE 0x1234 { start 0x0100 [0xED, 0x45] with sp := 0x7FFE, iff2 := true })
      (fun t => (t.pc, t.sp, t.iff1, t.iff2)) =
    some (some 14, (0x1234, 0x8000, true, true)) := by
  decide

/-- R240, as VJ21 (`C7`). -/
theorem test_rst_00 :
    after (start 0x1000 [0xC7])
      (fun t => (t.pc, t.sp, readWord 0x7FFE t)) =
    some (some 11, (0x0000, 0x7FFE, 0x1001)) := by
  decide

/-- R240, as VJ21 (`CF`). -/
theorem test_rst_08 :
    after (start 0x1000 [0xCF])
      (fun t => (t.pc, t.sp, readWord 0x7FFE t)) =
    some (some 11, (0x0008, 0x7FFE, 0x1001)) := by
  decide

/-- R240, as VJ21 (`D7`). -/
theorem test_rst_10 :
    after (start 0x1000 [0xD7])
      (fun t => (t.pc, t.sp, readWord 0x7FFE t)) =
    some (some 11, (0x0010, 0x7FFE, 0x1001)) := by
  decide

/-- R240, as VJ21 (`DF`). -/
theorem test_rst_18 :
    after (start 0x1000 [0xDF])
      (fun t => (t.pc, t.sp, readWord 0x7FFE t)) =
    some (some 11, (0x0018, 0x7FFE, 0x1001)) := by
  decide

/-- R240, as VJ21 (`E7`). -/
theorem test_rst_20 :
    after (start 0x1000 [0xE7])
      (fun t => (t.pc, t.sp, readWord 0x7FFE t)) =
    some (some 11, (0x0020, 0x7FFE, 0x1001)) := by
  decide

/-- R240, as VJ21 (`EF`). -/
theorem test_rst_28 :
    after (start 0x1000 [0xEF])
      (fun t => (t.pc, t.sp, readWord 0x7FFE t)) =
    some (some 11, (0x0028, 0x7FFE, 0x1001)) := by
  decide

/-- R240, as VJ21 (`F7`). -/
theorem test_rst_30 :
    after (start 0x1000 [0xF7])
      (fun t => (t.pc, t.sp, readWord 0x7FFE t)) =
    some (some 11, (0x0030, 0x7FFE, 0x1001)) := by
  decide

/-- R240, as VJ21 (`FF`). -/
theorem test_rst_38 :
    after (start 0x1000 [0xFF])
      (fun t => (t.pc, t.sp, readWord 0x7FFE t)) =
    some (some 11, (0x0038, 0x7FFE, 0x1001)) := by
  decide

/-- VJ24. -/
theorem test_push_bc :
    after { start 0x0100 [0xC5] with bc := 0x1234 }
      (fun t => (t.sp, readByte 0x7FFF t, readByte 0x7FFE t)) =
    some (some 11, (0x7FFE, 0x12, 0x34)) := by
  decide

/-- VJ26. -/
theorem test_push_hl :
    after { start 0x0100 [0xE5] with hl := 0xBEEF, sp := 0 }
      (fun t => (t.sp, readByte 0xFFFF t, readByte 0xFFFE t)) =
    some (some 11, (0xFFFE, 0xBE, 0xEF)) := by
  decide

/-- VJ25. -/
theorem test_push_af :
    after { start 0x0100 [0xF5] with af := 0x12D7 }
      (fun t => (t.sp, readByte 0x7FFF t, readByte 0x7FFE t)) =
    some (some 11, (0x7FFE, 0x12, 0xD7)) := by
  decide

/-- VJ27. -/
theorem test_pop_bc :
    after (withWord 0x7FFE 0x1234 { start 0x0100 [0xC1] with sp := 0x7FFE })
      (fun t => (t.bc, t.sp)) =
    some (some 10, (0x1234, 0x8000)) := by
  decide

/-- VJ28. -/
theorem test_pop_hl :
    after (withWord 0x7FFE 0x1234 { start 0x0100 [0xE1] with sp := 0x7FFE })
      (fun t => (t.hl, t.sp)) =
    some (some 10, (0x1234, 0x8000)) := by
  decide

/-- VF40. -/
theorem test_pop_af :
    after (withWord 0x7FFE 0x00FF { start 0x0100 [0xF1] with sp := 0x7FFE })
      (fun t => (t.af, t.sp)) =
    some (some 10, (0x00FF, 0x8000)) := by
  decide

/-- VE1. -/
theorem test_di :
    after { start 0x0100 [0xF3] with iff1 := true, iff2 := true }
      (fun t => (t.iff1, t.iff2, t.pc)) =
    some (some 4, (false, false, 0x0101)) := by
  decide

/-- VE2. -/
theorem test_ei :
    after (start 0x0100 [0xFB])
      (fun t => (t.iff1, t.iff2, t.pc)) =
    some (some 4, (true, true, 0x0101)) := by
  decide

/-- VE3. -/
theorem test_im_0 :
    after { start 0x0100 [0xED, 0x46] with im := .mode2 }
      (fun t => (t.im, t.pc)) =
    some (some 8, (.mode0, 0x0102)) := by
  decide

/-- VE4. -/
theorem test_im_1 :
    after (start 0x0100 [0xED, 0x56])
      (fun t => (t.im, t.pc)) =
    some (some 8, (.mode1, 0x0102)) := by
  decide

/-- VE5. -/
theorem test_im_2 :
    after (start 0x0100 [0xED, 0x5E])
      (fun t => (t.im, t.pc)) =
    some (some 8, (.mode2, 0x0102)) := by
  decide

/-- VT14: `len` 3 with a band-3 selector. -/
theorem test_ld_i_a :
    after { start 0x0100 [0xDD, 0xED, 0x47] with af := 0x80FF }
      (fun t => (t.ir, t.pc)) =
    some (some 9, (0x80FF, 0x0103)) := by
  decide

/-- S5. -/
theorem test_syn_jcond_taken :
    after { start 0x2000 [0xCB, 0xCB, 0xFE, 0xFB] with af := 0xFF00 }
      (fun t => t.pc) =
    some (some 12, 0x1FFF) := by
  decide

/-- VT10. -/
theorem test_syn_jcond_to_next :
    after { start 0x2000 [0xCB, 0xCB, 0xFE, 0x00] with af := 0xFF00 }
      (fun t => t.pc) =
    some (some 7, 0x2004) := by
  decide

/-- S5. -/
theorem test_syn_plain :
    after { start 0x2000 [0xCB, 0xCB, 0xFF, 0xFB] with af := 0xFF00 }
      (fun t => t.pc) =
    some (some 7, 0x2004) := by
  decide

/-- VX1. -/
theorem test_int_mode_1 :
    afterWith [] { start 0x0007 [] with im := .mode1, halt := true, iff1 := true, iff2 := true, intp := true }
      (fun t => ([t.pc, t.sp, readWord 0x7FFE t], [t.halt, t.iff1, t.iff2, t.intp])) =
    some (some 13, ([0x0038, 0x7FFE, 0x0007], [false, false, false, false])) := by
  decide

/-- VX2. -/
theorem test_int_mode_0_rst :
    afterWith [0xFF] { start 0x0007 [] with iff1 := true, iff2 := true, intp := true }
      (fun t => (t.pc, t.sp, t.iff1, readWord 0x7FFE t)) =
    some (some 13, (0x0038, 0x7FFE, false, 0x0007)) := by
  decide

/-- VX5: the interrupted PC is pushed. -/
theorem test_int_mode_0_call :
    afterWith [0xCD, 0x34, 0x12] { start 0x0123 [] with iff1 := true, iff2 := true, intp := true }
      (fun t => (t.pc, readWord 0x7FFE t)) =
    some (some 19, (0x1234, 0x0123)) := by
  decide

/-- VX6: relative to the interrupted PC. -/
theorem test_int_mode_0_jr :
    afterWith [0x20, 0x05] { start 0x0123 [] with af := 0xFF00, iff1 := true, iff2 := true, intp := true }
      (fun t => t.pc) =
    some (some 14, 0x0128) := by
  decide

/-- VX8: nothing changes but FATAL and its record; INTP is as before. -/
theorem test_int_mode_0_fatal :
    afterWith [0xDD, 0xCB, 0xED] { start 0x0123 [] with halt := true, iff1 := true, iff2 := true, intp := true }
      (fun t => (t.pc, [t.halt, t.iff1, t.intp], t.tcyc, t.fatalInfo)) =
    some (none, (0x0123, [true, true, true], 0, some ⟨0x0000, 0xDD, 0xCB, 0xED⟩)) := by
  decide

/-- VX10. -/
theorem test_int_mode_0_ei :
    afterWith [0xFB] { start 0x0123 [] with iff1 := true, iff2 := true, intp := true }
      (fun t => (t.pc, t.iff1, t.iff2)) =
    some (some 6, (0x0123, true, true)) := by
  decide

/-- VX12: the entry wraps. -/
theorem test_int_mode_2 :
    afterWith [0xFF] (withWord 0xFFFF 0x1234 { start 0x000A [] with sp := 0x9000, ir := 0xFF00, im := .mode2, iff1 := true, iff2 := true, intp := true })
      (fun t => (t.pc, t.sp, readWord 0x8FFE t)) =
    some (some 19, (0x1234, 0x8FFE, 0x000A)) := by
  decide

/-- VX13: the push overwrote the entry. -/
theorem test_int_mode_2_overwritten_entry :
    afterWith [0x00] (withWord 0x8100 0x2211 { start 0xABCD [] with sp := 0x8102, ir := 0x8100, im := .mode2, iff1 := true, iff2 := true, intp := true })
      (fun t => (t.pc, t.sp)) =
    some (some 19, (0xABCD, 0x8100)) := by
  decide

/-- VX17: the maskable request stays latched. -/
theorem test_nmi :
    afterWith [] { start 0x0007 [] with sp := 0x9000, im := .mode1, nmip := true, iff1 := true, iff2 := true, intp := true }
      (fun t => (t.pc, t.sp, [t.iff1, t.iff2, t.nmip, t.intp])) =
    some (some 11, (0x0066, 0x8FFE, [false, true, false, true])) := by
  decide

/-- VX19. -/
theorem test_nmi_stack_wraps :
    afterWith [] { start 0xFFFF [] with sp := 1, nmip := true }
      (fun t => (t.pc, t.sp, readByte 0x0000 t, readByte 0xFFFF t)) =
    some (some 11, (0x0066, 0xFFFF, 0xFF, 0xFF)) := by
  decide

/-- VX20. -/
theorem test_int_dropped_then_idle :
    afterWith [] { start 0x0007 [] with halt := true, intp := true }
      (fun t => (t.intp, t.pc, t.halt, t.tcyc)) =
    some (some 4, (false, 0x0007, true, 4)) := by
  decide

/-- VX21. -/
theorem test_int_dropped_then_instruction :
    afterWith [] { start 0x0100 [0x3C] with intp := true }
      (fun t => (t.intp, t.af, t.pc)) =
    some (some 4, (false, 0x0051, 0x0101)) := by
  decide

/-- After a fatal decode error no step exists (R145, R260). -/
theorem test_no_step_after_fatal : run [] { State.reset with fatal := true } = none := by decide

/-- What a frame returns, and the state after it. -/
def frame (stepper : State → Host.Outcome Returned Fault Refusal) (budget rounds : Nat) (s : State) :
    Option (Option Nat × State) :=
  match runFrameWithin stepper budget rounds s with
  | some (.next r) => some (r.cycles, r.state)
  | _ => none

/-- VH7: HALT, then idle steps, 20 cycles in all. -/
theorem test_run_frame_halted :
    (frame (stepReturnedOf (supplying [])) 20 21 (start 0x0000 [0x76])).map
      (fun r => (r.1, r.2.pc, r.2.halt)) = some (some 20, 0x0001, true) := by
  decide

/-- R187 with a table that has costs 0 and 5: the loop goes on after the step of 0 cycles. -/
theorem test_run_frame_zero_cost :
    (frame (stepWith (supplying []) fun sel => ⟨0, if sel = 0 then 0 else 5, 5, fun _ s => s⟩) 1 3
      (start 0x0100 [0x00, 0x01])).map (fun r => (r.1, r.2.pc)) = some (some 5, 0x0102) := by
  decide

/-- R190: no frame, not even one with budget 0, once FATAL is set; nor a question about HALT. -/
theorem test_no_host_operation_after_fatal :
    runFrame 0 { State.reset with fatal := true } = some (.fault .sessionOver) ∧
    isHalted { State.reset with fatal := true } = .fault .sessionOver := ⟨rfl, rfl⟩

/-- R60 (b), R158: with a read-only byte at 7FFE a push loses its low byte there and moves SP all the
same; so does the push of an NMI, which here has another vector and cost (R8). -/
theorem test_read_only_memory :
    let p := { supplying [] with
      writable := fun a => a != 0x7FFE, nmiVector := 0x0070, nmiAckCycles := 15 }
    ((runOf p { start 0x0100 [0xC5] with bc := 0x1234 }).map fun r =>
      (r.cycles, r.state.sp, readWord 0x7FFE r.state)) = some (some 11, 0x7FFE, 0x1200) ∧
    ((runOf p { start 0x4321 [] with nmip := true }).map fun r =>
      (r.cycles, r.state.pc, readWord 0x7FFE r.state)) = some (some 15, 0x0070, 0x4300) := by
  decide

/-- R77: a launch with a given memory runs what that memory holds. -/
theorem test_launch_memory :
    (run [] (State.launch [(0, 0x3E), (1, 0x2A)])).map (fun r => (r.state.af, r.state.pc)) =
      some (0x2AFF, 0x0002) := by
  decide

/-! ### Witnesses: for every statement with hypotheses, a case that meets them all, clause by clause -/

/-- ResetLeavesTheDocumentsValues, ResetLeavesTheSpecsOwnValues, ImageLoadIsVerbatimAtZero,
HostOperationsDoWhatTheySay, RunFrameReachesTheBudget: a session that is open, an image that fits (the
empty one and the longest too), one that does not, and a session that is over. -/
theorem test_witness_host :
    State.reset.fatal = false ∧ [0x3E, 0x2A, 0x76].length ≤ 65536 ∧ ([] : List Byte).length ≤ 65536 ∧
    (List.replicate 65536 (0x00 : Byte)).length ≤ 65536 ∧
    65536 < (List.replicate 65537 (0x00 : Byte)).length ∧
    { State.reset with fatal := true }.fatal = true :=
  ⟨rfl, by decide, by decide, by rw [List.length_replicate],
    by rw [List.length_replicate]; decide, rfl⟩

/-- HalvesAreViewsOfTheWords: another half of the same word, a half of another word, another word, and the
first and last bit. -/
theorem test_witness_halves :
    Reg8.f ≠ Reg8.a ∧ Reg8.b ≠ Reg8.a ∧ Reg16.bc ≠ Reg8.a.home ∧ 0 < 8 ∧ 7 < 8 := by decide

/-- MemoryIsItsContents: two canonical memories, with a byte at each end, that read alike. -/
theorem test_witness_memory :
    Memory.wf [(0, 0x01), (65535, 0x02)] = true ∧
    (memPut (memPut [] 65535 0x02) 0 0x01).wf = true ∧
    memPut (memPut [] 65535 0x02) 0 0x01 = [(0, 0x01), (65535, 0x02)] := by decide

/-- PopAfterPushGivesTheWordBack: both bytes writable, the stack wrapping at 0. -/
theorem test_witness_push_pop :
    (fun _ : Word => true) ((0x0001 : Word) - 1) = true ∧
    (fun _ : Word => true) ((0x0001 : Word) - 2) = true := by decide

/-- DecoderIsThePseudocode, SinglePrefixPatterns, TwoPrefixPatterns, CollisionDiscardsTheFirstPrefix,
ThreePrefixBytesAreFatal: final bytes at both ends of the range, the four prefixes, three prefixes. -/
theorem test_witness_prefix_bytes :
    (¬ IsPrefixByte 0x00 ∧ ¬ IsPrefixByte 0xFF ∧ ¬ IsPrefixByte 0xCC) ∧
    (∀ p : Prefix, IsPrefixByte p.byte) ∧
    (IsPrefixByte (listSource [0xDD, 0xED, 0x47] 0) ∧ listSource [0xDD, 0xED, 0x47] 1 = 0xED ∧
      ¬ IsPrefixByte (listSource [0xDD, 0xED, 0x47] 2)) ∧
    (listSource [0xCB, 0xCB, 0xFF] 0 = 0xCB ∧ listSource [0xCB, 0xCB, 0xFF] 1 = 0xCB ∧
      ¬ IsPrefixByte (listSource [0xCB, 0xCB, 0xFF] 2)) := by
  refine ⟨by decide, fun p => by cases p <;> decide, by decide, by decide⟩

/-- SinglePrefixPatterns, SelectorGivesTheLength: a source that decodes, at the ends of the lengths. -/
theorem test_witness_decodes :
    decodeSelector (listSource [0xFF]) = .ok 255 1 ∧ decodeSelector (listSource [0xDD, 0x00]) = .ok 256 2 ∧
    decodeSelector (listSource [0xDD, 0xDD, 0x00]) = .ok 1536 3 ∧
    decodeSelector (listSource [0xDD, 0xED, 0xFF]) = .ok 1023 3 := by decide

/-- RegularPatternsAreInjective: two regular patterns with one selector. -/
theorem test_witness_regular :
    Pattern.one .dd ∈ [Pattern.bare, .one .dd, .one .fd, .one .ed, .one .cb, .two .dd .cb, .two .fd .cb] ∧
    (Pattern.one .dd).selector 0xFF = (Pattern.one .dd).selector 0xFF := by decide

/-- DecodeOfEncode, UnmappedWordsAreNoOperations: a well-formed instruction and a source that starts with
its bytes. -/
theorem test_witness_encoded :
    (Instr.pfxDdEd 0x00).wellFormed = true ∧
    StartsWith (listSource [0xDD, 0xED, 0x00]) (encode (.pfxDdEd 0x00)) ∧
    (start 0x1000 [0xDD, 0xED, 0x00]).fetches = true ∧
    StartsWith (pcSource (start 0x1000 [0xDD, 0xED, 0x00])) (encode (.pfxDdEd 0x00)) := by decide

/-- UnmappedWordsAreNoOperations: the same final byte in all 21 patterns. -/
theorem test_witness_patterns_well_formed :
    [Instr.pfxNone 0xA5, .pfxDd 0xA5, .pfxFd 0xA5, .pfxEd 0xA5, .pfxCb 0xA5, .pfxDdDd 0xA5, .pfxDdFd 0xA5,
      .pfxDdCb 0xA5, .pfxFdDd 0xA5, .pfxFdFd 0xA5, .pfxFdCb 0xA5, .pfxEdDd 0xA5, .pfxEdFd 0xA5,
      .pfxEdCb 0xA5, .pfxCbDd 0xA5, .pfxCbFd 0xA5, .pfxCbCb 0xA5, .pfxDdEd 0xA5, .pfxFdEd 0xA5,
      .pfxEdEd 0xA5, .pfxCbEd 0xA5].all Instr.wellFormed = true := by decide

/-- ThreePrefixBytesAreFatal, FatalDecodeChangesNothingElse, StepRunsTheDecodedInstruction,
OrdinaryStepIsThePhases: a state that fetches three prefix bytes, at the top of memory. -/
theorem test_witness_fatal_step :
    (start 0xFFFE [0xDD, 0xCB, 0xDD]).fetches = true ∧
    IsPrefixByte (readByte (start 0xFFFE [0xDD, 0xCB, 0xDD]).pc (start 0xFFFE [0xDD, 0xCB, 0xDD])) ∧
    IsPrefixByte (readByte ((start 0xFFFE [0xDD, 0xCB, 0xDD]).pc + 1) (start 0xFFFE [0xDD, 0xCB, 0xDD])) ∧
    IsPrefixByte (readByte ((start 0xFFFE [0xDD, 0xCB, 0xDD]).pc + 2) (start 0xFFFE [0xDD, 0xCB, 0xDD])) ∧
    decodeSelector (pcSource (start 0xFFFE [0xDD, 0xCB, 0xDD])) = .fatal 0xDD 0xCB 0xDD := by decide

/-- StepRunsTheDecodedInstruction, OrdinaryStepIsThePhases, PcWrapsModulo65536: a state that fetches, whose
bytes decode, and whose instruction completes; the two-byte words at 0xFFFF, one with a prefix and one with
an operand byte. -/
theorem test_witness_ordinary_step :
    (start 0xFFFF [0xDD, 0x22]).fetches = true ∧ (start 0xFFFF [0xDD, 0x22]).pc = 0xFFFF ∧
    decodeSelector (pcSource (start 0xFFFF [0xDD, 0x22])) = .ok 290 2 ∧
    2 + (trefTable Config.params 290).n = 2 ∧
    (∀ ops u, u.pc = 0x0001 → ((trefTable Config.params 290).exec ops u).pc = 0x0001) ∧
    (∀ ops u, ((trefTable Config.params 290).exec ops u).af = u.af) ∧
    (start 0xFFFF [0x3E, 0x2A]).fetches = true ∧ (start 0xFFFF [0x3E, 0x2A]).pc = 0xFFFF ∧
    decodeSelector (pcSource (start 0xFFFF [0x3E, 0x2A])) = .ok 62 1 ∧
    1 + (trefTable Config.params 62).n = 2 ∧ readByte 0xFFFF (start 0xFFFF [0x3E, 0x2A]) = 0x3E ∧
    (∀ ops u, u.pc = 0x0001 → ((trefTable Config.params 62).exec ops u).pc = 0x0001) :=
  ⟨by decide, by decide, by decide, by decide, fun _ _ h => h, fun _ _ => rfl, by decide, by decide,
    by decide, by decide, by decide, fun _ _ h => h⟩

/-- PcWrapsModulo65536: LD A,I and RLC B at 0xFFFF. -/
theorem test_witness_wrap_prefixed :
    (start 0xFFFF [0xED, 0x57]).fetches = true ∧ (start 0xFFFF [0xED, 0x57]).pc = 0xFFFF ∧
    readByte 0xFFFF (start 0xFFFF [0xED, 0x57]) = 0xED ∧ readByte 0x0000 (start 0xFFFF [0xED, 0x57]) = 0x57 ∧
    (start 0xFFFF [0xCB, 0x00]).fetches = true ∧ (start 0xFFFF [0xCB, 0x00]).pc = 0xFFFF ∧
    readByte 0xFFFF (start 0xFFFF [0xCB, 0x00]) = 0xCB ∧
    readByte 0x0000 (start 0xFFFF [0xCB, 0x00]) = 0x00 := by
  decide

/-- OrdinaryStepIsThePhases: a selector no row maps. -/
theorem test_witness_unmapped : mappedSelectors.contains 2 = false := by decide

/-- A state in which an interrupt is accepted. -/
def interrupted (m : IMode) : State :=
  { start 0x0007 [0x00] with intp := true, iff1 := true, iff2 := true, im := m, halt := true }

/-- NmiIsTakenFirst, IntModesOneAndTwo, IntModeZero, FatalDecodeChangesNothingElse (mode 0): the requests,
the modes, a device that supplies 0xFF and one that supplies three prefix bytes. -/
theorem test_witness_requests :
    ({ interrupted .mode1 with nmip := true }.fatal = false ∧ { interrupted .mode1 with nmip := true }.nmip = true) ∧
    (∀ m : IMode, (interrupted m).fatal = false ∧ (interrupted m).nmip = false ∧ (interrupted m).intp = true ∧
      (interrupted m).iff1 = true ∧ (interrupted m).im = m) ∧
    (∀ i, (supplying []).intDevice i = 0xFF) ∧ decodeSelector (supplying []).intDevice = .ok 255 1 ∧
    decodeSelector (listSource [0xDD, 0xCB, 0xED]) = .fatal 0xDD 0xCB 0xED :=
  ⟨⟨rfl, rfl⟩, fun _ => ⟨rfl, rfl, rfl, rfl, rfl⟩, fun _ => rfl, by decide, by decide⟩

/-- NmiIsTakenFirst: the handler's first bytes decode. -/
theorem test_witness_nmi_handler :
    (afterWith [] { interrupted .mode1 with nmip := true } fun t => decodeSelector (pcSource t)) =
    some (some 11, .ok 0 1) := by decide

/-- MaskedRequestIsDropped, HaltIdlesForAnyNumberOfSteps, FlagsKeepTheirWriters: a masked request, halted
and running. -/
theorem test_witness_masked :
    let s := { start 0x0007 [0x3C] with intp := true, halt := true }
    s.fatal = false ∧ s.nmip = false ∧ s.intp = true ∧ s.iff1 = false ∧ (s.intp && s.iff1) = false ∧
    s.halt = true ∧ { s with halt := false }.halt = false ∧ decodeSelector (pcSource s) = .ok 60 1 := by
  decide

/-- HaltStateMachine, EveryStepKeepsTheInvariant, RIsStorageOnly: steps of the machine that answer a next
state: HALT executed, a halted core woken by an NMI and by an INT, a halted core left idle, LD I,A. -/
theorem test_witness_machine_steps :
    ((start 0x0006 [0x76]).halt = false ∧ (start 0x0006 [0x76]).fetches = true ∧
      (decode (pcSource (start 0x0006 [0x76]))).instr = .halt ∧ (start 0x0006 [0x76]).inv = true ∧
      ∃ t, step (start 0x0006 [0x76]) = .next t ∧ t.halt = true) ∧
    ((interrupted .mode1).halt = true ∧ (interrupted .mode1).intp = true ∧ (interrupted .mode1).iff1 = true ∧
      ∃ t, step (interrupted .mode1) = .next t) ∧
    (∃ t, step { interrupted .mode1 with nmip := true } = .next t) ∧
    ({ start 0x0007 [] with halt := true }.halt = true ∧ { start 0x0007 [] with halt := true }.nmip = false ∧
      { start 0x0007 [] with halt := true }.intp = false ∧
      ∃ t, step { start 0x0007 [] with halt := true } = .next t) ∧
    (∃ t, step (start 0x0100 [0xED, 0x47]) = .next t ∧
      read8 .i t ≠ read8 .i (start 0x0100 [0xED, 0x47])) :=
  ⟨⟨by decide, by decide, by decide, by decide, _, rfl, rfl⟩, ⟨rfl, rfl, rfl, _, rfl⟩, ⟨_, rfl⟩,
    ⟨rfl, by decide, by decide, _, rfl⟩, ⟨_, rfl, by decide⟩⟩

/-- NoDrift, RunFrameReachesTheBudget: a table with positive costs; a run of it; a step that returns no
count; a host operation that answers; positive cycle constants. -/
theorem test_witness_run :
    let p := supplying []
    0 < (defaultDesc p).base ∧ 0 < (defaultDesc p).alt ∧ 0 < p.haltIdleCycles ∧ 0 < p.nmiAckCycles ∧
    0 < p.im1AckCycles ∧ 0 < p.im2AckCycles ∧ 0 < p.defaultCycles ∧
    (∃ sum t, runSteps (stepWith p fun _ => defaultDesc p) 2 State.reset = .next ⟨some sum, t⟩) ∧
    (∃ t, stepWith p (fun _ => defaultDesc p) (start 0 [0xDD, 0xDD, 0xDD]) = .next ⟨none, t⟩) ∧
    (∃ t, hostOp p .reset State.reset = .next t) ∧ ∃ t, hostOp p .requestNmi State.reset = .next t :=
  ⟨by decide, by decide, by decide, by decide, by decide, by decide, by decide, ⟨_, _, rfl⟩, ⟨_, rfl⟩,
    ⟨_, rfl⟩, ⟨_, rfl⟩⟩

/-- RunFrameReachesTheBudget: a frame with budget 1 whose first step costs 4 and ends it; a frame whose
first step is fatal; one that is not begun. -/
theorem test_witness_frame :
    let p := supplying []
    (∃ s', stepWith p (machineTable p) State.reset = .next ⟨some 4, s'⟩ ∧
      FrameEnds (stepWith p (machineTable p)) (1 - 4) s' (.next ⟨some 0, s'⟩)) ∧
    (∃ t, FrameEnds (stepWith p (machineTable p)) 1 State.reset (.next ⟨some 4, t⟩)) ∧
    (∃ t, FrameEnds (stepWith p (machineTable p)) 1 (start 0 [0xDD, 0xDD, 0xDD]) (.next ⟨none, t⟩)) :=
  ⟨⟨_, rfl, 1, rfl⟩, ⟨_, 2, rfl⟩, ⟨_, 1, rfl⟩⟩

/-- HostOperationsKeepTheInvariant, ResetMeetsTheInvariant: reset meets the invariant, an operation answers, and a state is
reachable. -/
theorem test_witness_invariant :
    State.reset.inv = true ∧
    (∃ t, hostOp (supplying []) (.poke 0xFFFF 0x01) State.reset = .next t) ∧
    Reachable (supplying []) (machineTable (supplying [])) (State.launch [(65535, 0x01)]) :=
  ⟨by decide, ⟨_, rfl⟩, .launch _ rfl⟩

/-- The statements on who writes what: an instruction that meets every hypothesis at once. -/
theorem test_witness_writers :
    exec .nop State.reset = .next State.reset ∧ writesF .nop = false ∧ writesMemory .nop = false ∧
    writesSp .nop = false ∧ writesPc .nop = false ∧ writesFlipFlops .nop = false ∧ writesIm .nop = false ∧
    Instr.nop ≠ .exAfAf ∧ Instr.nop ≠ .exx ∧ Instr.nop ≠ .halt ∧ Instr.nop ≠ .retn ∧ Instr.nop ≠ .ldIA ∧
    (∀ nn, Instr.nop ≠ .ldIxNn nn) ∧ (∀ nn, Instr.nop ≠ .ldIyNn nn) :=
  ⟨rfl, rfl, rfl, rfl, rfl, rfl, rfl, nofun, nofun, nofun, nofun, nofun, nofun, nofun⟩

/-- FlagsKeepTheirWriters: a step that accepts an NMI, one that accepts an INT, one that idles, each
answering a next state. -/
theorem test_witness_flag_acceptance :
    (run [] { interrupted .mode1 with nmip := true }).isSome = true ∧
    (run [] (interrupted .mode2)).isSome = true ∧
    ((interrupted .mode2).intp && (interrupted .mode2).iff1) = true ∧ (interrupted .mode2).im ≠ .mode0 ∧
    (run [] { start 0x0007 [] with halt := true }).isSome = true := by
  decide

/-- InterruptControl: EI with a request pending in mode 1. -/
theorem test_witness_ei :
    ∃ u, exec .ei { interrupted .mode1 with iff1 := false, iff2 := false } = .next u ∧ u.fatal = false ∧
      u.nmip = false ∧ u.intp = true ∧ u.im = .mode1 :=
  ⟨_, rfl, rfl, rfl, rfl, rfl⟩

/-- CallsAndRestarts: an entry of the list. -/
theorem test_witness_restart :
    (Instr.rst38, (0xFF : Byte), (0x0038 : Word)) ∈
      [(Instr.rst00, (0xC7 : Byte), (0x0000 : Word)), (.rst08, 0xCF, 0x0008), (.rst10, 0xD7, 0x0010),
        (.rst18, 0xDF, 0x0018), (.rst20, 0xE7, 0x0020), (.rst28, 0xEF, 0x0028), (.rst30, 0xF7, 0x0030),
        (.rst38, 0xFF, 0x0038)] := by decide

end Sys2Proof.Tests
end

section
/-! PROOFS. The state after reset (`10_state.md` R50) and the layout of F (R23). -/

namespace Sys2Proof.Machine

/-! ### Reset -/

/-- In an open session the host's reset gives the launch state with the memory there is (R180, R302). -/
theorem hostOp_reset (p : Params) {s : State} (hopen : s.fatal = false) :
    hostOp p .reset s = .next (State.launch s.mem) := by
  simp only [hostOp, hopen, Bool.false_eq_true, if_false, hostReset]

/-- Every state the reset statements speak of is a launch state: they differ in their memory only. -/
theorem eq_launch_of_mem_launchStates {m m' : Memory} {u : State}
    (hu : u ∈ [State.launch m, State.launch m', State.reset]) : ∃ mem, u = State.launch mem := by
  simp only [List.mem_cons, List.not_mem_nil, or_false] at hu
  obtain rfl | rfl | rfl := hu
  · exact ⟨m, rfl⟩
  · exact ⟨m', rfl⟩
  · exact ⟨[], rfl⟩

/-- Settles O1: the reset state is a launch state, and a launch state has the document's value in every
field whatever its memory. -/
theorem resetLeavesTheDocumentsValues : Obligations.ResetLeavesTheDocumentsValues := by
  intro p s mem hopen
  refine ⟨State.launch s.mem, hostOp_reset p hopen, fun u hu => ?_⟩
  obtain ⟨m, rfl⟩ := eq_launch_of_mem_launchStates hu
  exact ⟨rfl, rfl, rfl, rfl, rfl, rfl, rfl, rfl, rfl, rfl, rfl, rfl, rfl, rfl, rfl⟩

/-! ### The flag bits -/

theorem Flag.bit_lt (fl : Flag) : fl.bit < 8 := by
  cases fl <;> decide

/-- F is the low byte of AF, so the bit number of a flag in F is its bit number in AF. -/
theorem flag_eq_getLsbD_af (fl : Flag) (s : State) : flag fl s = s.af.getLsbD fl.bit := by
  have hF : read8 .f s = loByte s.af := rfl
  rw [flag, hF, getLsbD_loByte, decide_eq_true fl.bit_lt, Bool.true_and]

/-- Settles O4: each flag is its bit of AF, and its mask is 2 to the power of its bit number. -/
theorem flagBitsAreTheLayoutOfF : Obligations.FlagBitsAreTheLayoutOfF := by
  refine ⟨fun s => ?layout, ?masks⟩
  case layout =>
    exact ⟨flag_eq_getLsbD_af .s s, flag_eq_getLsbD_af .z s, flag_eq_getLsbD_af .y s,
      flag_eq_getLsbD_af .hf s, flag_eq_getLsbD_af .x s, flag_eq_getLsbD_af .pv s,
      flag_eq_getLsbD_af .n s, flag_eq_getLsbD_af .cf s⟩
  case masks => decide

end Sys2Proof.Machine
end

section
/-! PROOFS. What the scan and the decoder give for the unprefixed pattern, for the four patterns of one
prefixing byte (`40_decoder.md` R113 to R117), and for the collision patterns (R105, R130, R131). -/

namespace Sys2Proof.Machine

/-! ### Prefixes and the scan -/

/-- `IsPrefixByte` of the statements holds of exactly the bytes of the model's `Prefix` (R101). -/
theorem isPrefixByte_iff {b : Byte} : IsPrefixByte b ↔ ∃ p : Prefix, b = p.byte := by
  constructor
  · rintro (rfl | rfl | rfl | rfl)
    exacts [⟨.dd, rfl⟩, ⟨.fd, rfl⟩, ⟨.ed, rfl⟩, ⟨.cb, rfl⟩]
  · rintro ⟨p, rfl⟩
    cases p <;> decide

theorem not_isPrefixByte_iff {b : Byte} : ¬ IsPrefixByte b ↔ prefixOf b = none := by
  simp only [isPrefixByte_iff, ← prefixOf_eq_some, Option.eq_none_iff_forall_ne_some, not_exists, ne_eq]

theorem scan_bare {src : Nat → Byte} (h0 : ¬ IsPrefixByte (src 0)) :
    scan src = .opcode .bare (src 0) := by
  simp only [scan, not_isPrefixByte_iff.mp h0]

theorem scan_one {src : Nat → Byte} {p : Prefix} (h0 : src 0 = p.byte)
    (h1 : ¬ IsPrefixByte (src 1)) : scan src = .opcode (.one p) (src 1) := by
  simp only [scan, h0, prefixOf_byte, not_isPrefixByte_iff.mp h1]

theorem scan_two {src : Nat → Byte} {p q : Prefix} (h0 : src 0 = p.byte) (h1 : src 1 = q.byte)
    (h2 : ¬ IsPrefixByte (src 2)) : scan src = .opcode (.two p q) (src 2) := by
  simp only [scan, h0, h1, prefixOf_byte, not_isPrefixByte_iff.mp h2]

/-- The scan goes on past each of the four prefixes, so none is the second byte of `.one p` (R103). -/
theorem not_isPrefixByte_of_scan_one {src : Nat → Byte} {p : Prefix} {op : Byte}
    (hscan : scan src = .opcode (.one p) op) : ¬ IsPrefixByte (src 1) := by
  obtain ⟨-, h⟩ | ⟨-, -, hfinal, -⟩ | ⟨_, _, -, -, -, h⟩ | ⟨_, _, _, -, -, -, h⟩ := scan_cases src
  case inr.inl => exact not_isPrefixByte_iff.mpr hfinal
  all_goals cases h.symm.trans hscan

/-- The scan ends at the first byte that is none of the four prefixes (R103). -/
theorem not_isPrefixByte_of_scan {src : Nat → Byte} {pat : Pattern} {op : Byte}
    (hscan : scan src = .opcode pat op) : ¬ IsPrefixByte op := by
  obtain ⟨hfinal, h⟩ | ⟨_, -, hfinal, h⟩ | ⟨_, _, -, -, hfinal, h⟩ | ⟨_, _, _, -, -, -, h⟩ :=
    scan_cases src
  case inr.inr.inr => cases h.symm.trans hscan
  all_goals
    cases h.symm.trans hscan
    exact not_isPrefixByte_iff.mpr hfinal

/-! ### Selectors -/

/-- A padding byte has rank 0, so it adds no band to the selector (R102, R106). -/
theorem selectorOf_zero (byte1 byte2 : Byte) :
    selectorOf 0x00 byte1 byte2 = rank byte1 * 256 + byte2.toNat := by
  have hrank : rank 0x00 = 0 := rfl
  rw [selectorOf, hrank, if_neg (Nat.lt_irrefl 0), Nat.zero_mul, Nat.zero_add]

theorem selector_bare (op : Byte) : Pattern.bare.selector op = op.toNat :=
  calc Pattern.bare.selector op = rank 0x00 * 256 + op.toNat := selectorOf_zero 0x00 op
    _ = op.toNat := Nat.zero_add _

theorem selector_one (p : Prefix) (op : Byte) :
    (Pattern.one p).selector op = rank p.byte * 256 + op.toNat :=
  selectorOf_zero p.byte op

/-- The collision rule (R105): of two prefixes whose second is 0xED the first is discarded, and the selector
is that of pattern ED. -/
theorem selector_two_ed (p : Prefix) (op : Byte) :
    (Pattern.two p .ed).selector op = (Pattern.one .ed).selector op := rfl

/-- The low byte of a selector is the final byte (R107). -/
theorem selector_mod_256 (pat : Pattern) (op : Byte) : pat.selector op % 256 = op.toNat := by
  rw [Pattern.selector, selectorOf, ← Nat.add_mul, Nat.mul_add_mod_self_right, Nat.mod_eq_of_lt op.isLt]

/-! ### The selector and the length decoded -/

theorem decodeSelector_of_scan {src : Nat → Byte} {pat : Pattern} {op : Byte}
    (hscan : scan src = .opcode pat op) : decodeSelector src = .ok (pat.selector op) pat.len := by
  simp only [decodeSelector, hscan]

theorem decodeSelector_bare {src : Nat → Byte} (h0 : ¬ IsPrefixByte (src 0)) :
    decodeSelector src = .ok (src 0).toNat 1 := by
  rw [decodeSelector_of_scan (scan_bare h0), selector_bare, Pattern.len]

theorem decodeSelector_one {src : Nat → Byte} (p : Prefix) (h0 : src 0 = p.byte)
    (h1 : ¬ IsPrefixByte (src 1)) :
    decodeSelector src = .ok (rank p.byte * 256 + (src 1).toNat) 2 := by
  rw [decodeSelector_of_scan (scan_one h0 h1), selector_one, Pattern.len]

/-- A collision decodes as pattern ED does, but for the length, which counts the discarded byte
(R105, R108). -/
theorem decodeSelector_collision {src : Nat → Byte} (h0 : IsPrefixByte (src 0)) (h1 : src 1 = 0xED)
    (h2 : ¬ IsPrefixByte (src 2)) : decodeSelector src = .ok (768 + (src 2).toNat) 3 := by
  obtain ⟨p, hp⟩ := isPrefixByte_iff.mp h0
  have hscan : scan src = .opcode (.two p .ed) (src 2) := scan_two hp h1 h2
  rw [decodeSelector_of_scan hscan, selector_two_ed, selector_one]
  rfl

/-- A decoded selector comes from a scanned pattern and a final byte. -/
theorem exists_scan_of_decodeSelector_ok {src : Nat → Byte} {sel len : Nat}
    (h : decodeSelector src = .ok sel len) :
    ∃ pat op, scan src = .opcode pat op ∧ sel = pat.selector op ∧ len = pat.len := by
  unfold decodeSelector at h
  split at h
  · next pat op hscan => cases h; exact ⟨pat, op, hscan, rfl, rfl⟩
  · cases h

/-- The low byte of a decoded selector is the final byte of the scan, so none of the four prefixes (R103,
R107). -/
theorem exists_finalByte_of_decodeSelector_ok {src : Nat → Byte} {sel len : Nat}
    (h : decodeSelector src = .ok sel len) : ∃ op : Byte, sel % 256 = op.toNat ∧ ¬ IsPrefixByte op := by
  obtain ⟨pat, op, hscan, rfl, -⟩ := exists_scan_of_decodeSelector_ok h
  exact ⟨op, selector_mod_256 pat op, not_isPrefixByte_of_scan hscan⟩

/-- None of the four prefixes is itself a selector (R113, corner case). -/
theorem decodeSelector_ne_prefixByte {src : Nat → Byte} {sel len : Nat}
    (h : decodeSelector src = .ok sel len) (p : Prefix) : sel ≠ p.byte.toNat := by
  rintro rfl
  obtain ⟨op, hlow, hop⟩ := exists_finalByte_of_decodeSelector_ok h
  rw [Nat.mod_eq_of_lt p.byte.isLt] at hlow
  exact hop (isPrefixByte_iff.mpr ⟨p, (BitVec.eq_of_toNat_eq hlow).symm⟩)

/-! ### The statements -/

/-- Patterns DD, FD, ED and CB (R114 to R117) in one law: selector, length, scan and padding. -/
theorem singlePrefix_decodes {src : Nat → Byte} (h1 : ¬ IsPrefixByte (src 1)) (p : Prefix)
    (h0 : src 0 = p.byte) :
    decodeSelector src = .ok (rank p.byte * 256 + (src 1).toNat) 2 ∧
      scan src = .opcode (.one p) (src 1) ∧ padded (collide (.one p)) = (0x00, p.byte) :=
  ⟨decodeSelector_one p h0 h1, scan_one h0 h1, rfl⟩

/-- Settles O10: patterns DD, FD, ED and CB are cases of one law over `Prefix`, and the low byte of a selector
is a final byte, so none of the four prefixes is a selector. -/
theorem singlePrefixPatterns : Obligations.SinglePrefixPatterns := by
  refine ⟨fun _ h0 => ⟨decodeSelector_bare h0, scan_bare h0, rfl⟩,
    fun _ h1 => ⟨singlePrefix_decodes h1 .dd, singlePrefix_decodes h1 .fd,
      singlePrefix_decodes h1 .ed, singlePrefix_decodes h1 .cb⟩,
    rfl, rfl, rfl, rfl, rfl, fun _ => decodeSelector_collision, ?second, ?unreached⟩
  case second => exact fun _ _ _ h1 hscan => not_isPrefixByte_of_scan_one hscan h1
  case unreached =>
    exact fun _ _ _ h => ⟨decodeSelector_ne_prefixByte h .cb, decodeSelector_ne_prefixByte h .dd,
      decodeSelector_ne_prefixByte h .ed, decodeSelector_ne_prefixByte h .fd⟩

/-- Settles O12: the collision, and pattern ED for the source from its second byte on. -/
theorem collisionDiscardsTheFirstPrefix : Obligations.CollisionDiscardsTheFirstPrefix :=
  fun _ h0 h1 h2 =>
    ⟨decodeSelector_collision h0 h1 h2, decodeSelector_one .ed h1 h2⟩

end Sys2Proof.Machine
end

section
/-! PROOFS. How an instruction of TREF meets its rule (`44_reference_table.md` R200, R201, R258): the row, the
opcode and the encoding are computed, and what a proof has to say is the effect of the instruction. -/

namespace Sys2Proof.Machine

@[simp] theorem wordBytes_joinBytes (hi lo : Byte) : wordBytes (joinBytes hi lo) = [lo, hi] := by
  rw [wordBytes, loByte_joinBytes, hiByte_joinBytes]

/-- Everything `Follows` says of the table, the descriptor's run and the cost choice (R152) included, is
settled by the row of TREF and by what `exec` answers. -/
theorem follows_of_row {sel n base alt : Nat} {make : List Byte → Instr} {code ops : List Byte}
    {i : Instr} {s t : State}
    (hrow : findRow trefRows sel = some ⟨sel, n, .cycles base, .cycles alt, make⟩)
    (hdecode : decodeSelector (listSource code) = .ok sel code.length)
    (hops : ops.length = n) (hmake : make ops = i) (hencode : encode i = code ++ ops)
    (hexec : exec i s = .next t) :
    Follows (trefTable Config.params) sel code n base alt ops i s t := by
  subst hmake
  have hdesc := tableOf_some (p := Config.params) hrow
  have hrun := runExec_trefTable hrow hexec
  refine ⟨hencode, hdecode, hops, ?_, ?_, ?_, hexec, hrun, ?_⟩ <;> rw [trefTable, hdesc] <;> rfl

/-! The three operand forms of R201. The hypotheses about the row, the selector and the bytes are closed
computations, left to `rfl`; only the effect is given by hand. -/

theorem follows_noOperand {sel base alt : Nat} {code : List Byte} {i : Instr} {s t : State}
    (hexec : exec i s = .next t)
    (hrow : findRow trefRows sel = some ⟨sel, 0, .cycles base, .cycles alt, fun _ => i⟩ := by rfl)
    (hdecode : decodeSelector (listSource code) = .ok sel code.length := by rfl)
    (hencode : encode i = code := by rfl) :
    Follows (trefTable Config.params) sel code 0 base alt [] i s t :=
  follows_of_row hrow hdecode rfl rfl (hencode.trans (List.append_nil code).symm) hexec

theorem follows_byteOperand {sel base alt : Nat} {code : List Byte} {op : Byte → Instr} {b : Byte}
    {s t : State} (hexec : exec (op b) s = .next t)
    (hrow : findRow trefRows sel =
      some ⟨sel, 1, .cycles base, .cycles alt, fun ops => op (imm8 ops)⟩ := by rfl)
    (hdecode : decodeSelector (listSource code) = .ok sel code.length := by rfl)
    (hencode : encode (op b) = code ++ [b] := by rfl) :
    Follows (trefTable Config.params) sel code 1 base alt [b] (op b) s t :=
  follows_of_row hrow hdecode rfl rfl hencode hexec

theorem follows_wordOperand {sel base alt : Nat} {code : List Byte} {op : Word → Instr}
    {lo hi : Byte} {s t : State} (hexec : exec (op (joinBytes hi lo)) s = .next t)
    (hrow : findRow trefRows sel =
      some ⟨sel, 2, .cycles base, .cycles alt, fun ops => op (imm16 ops)⟩ := by rfl)
    (hdecode : decodeSelector (listSource code) = .ok sel code.length := by rfl)
    (hencode : ∀ nn, encode (op nn) = code ++ wordBytes nn := by exact fun _ => rfl) :
    Follows (trefTable Config.params) sel code 2 base alt [lo, hi] (op (joinBytes hi lo)) s t := by
  refine follows_of_row hrow hdecode rfl rfl ?_ hexec
  rw [hencode, wordBytes_joinBytes]

end Sys2Proof.Machine
end

section
/-! PROOFS. The loads and stores (`44_reference_table.md` sections 3 and 4, R210 to R228). -/

namespace Sys2Proof.Machine

/-- `sext_16` spelled out (`00_scope.md` R11): from 0x80 on the high byte is 0xFF. -/
theorem sext16_eq (d : Byte) :
    sext16 d =
      if d.toNat < 128 then BitVec.ofNat 16 d.toNat else BitVec.ofNat 16 (d.toNat + 0xFF00) := by
  revert d
  decide

/-- Settles O42: each load is a write of A or B, which keeps the other half of its word. -/
theorem byteLoads : Obligations.ByteLoads := by
  refine ⟨fun s n => ⟨?ldAN, ?ldBN⟩, fun s => ⟨?ldAB, ?ldBA, ?ldAMemHl⟩, fun s lo hi => ?ldAMemNn,
    fun s d => ⟨?ldAIxd, sext16_eq d⟩⟩
  case ldAN | ldBN | ldAIxd => exact follows_byteOperand rfl
  case ldAB | ldBA | ldAMemHl => exact follows_noOperand rfl
  case ldAMemNn => exact follows_wordOperand rfl

/-- Settles O43: a store is one byte or one word written through the bus, whose reads are known at every
address. -/
theorem stores : Obligations.Stores := by
  refine ⟨fun s => ?ldMemHlA, fun s lo hi => ?ldMemNnA, fun s lo hi => ?ldMemNnHl⟩
  case ldMemHlA =>
    exact ⟨writeByte s.hl (hiByte s.af) s, follows_noOperand rfl, rfl,
      fun x => readByte_writeByte s.hl x (hiByte s.af) s⟩
  case ldMemNnA =>
    exact ⟨writeByte (joinBytes hi lo) (hiByte s.af) s, follows_wordOperand rfl, rfl,
      fun x => readByte_writeByte (joinBytes hi lo) x (hiByte s.af) s⟩
  case ldMemNnHl =>
    exact ⟨writeWord (joinBytes hi lo) s.hl s, follows_wordOperand rfl, rfl,
      fun x => readByte_writeWord (joinBytes hi lo) x s.hl s⟩

/-- Settles O44: each load writes its word register; `DD DD 21` scans to a selector that TREF does not map. -/
theorem wordImmediateLoads : Obligations.WordImmediateLoads := by
  refine ⟨fun s lo hi => ⟨?bc, ?de, ?hl, ?sp, ?ix, ?iy⟩, rfl, fun p => tableOf_none rfl⟩
  all_goals exact follows_wordOperand rfl

/-- Settles O45: HL takes the word read, SP takes HL, and the exchange reads both words first. -/
theorem wordMovesAndExDeHl : Obligations.WordMovesAndExDeHl :=
  ⟨fun _ _ _ => follows_wordOperand rfl, fun _ => ⟨follows_noOperand rfl, follows_noOperand rfl⟩⟩

end Sys2Proof.Machine
end

section
/-! PROOFS. The jumps (`44_reference_table.md` R230 to R237). -/

namespace Sys2Proof.Machine

/-- Settles O46: a jump writes PC, and nothing else. -/
theorem jumps : Obligations.Jumps :=
  ⟨fun _ _ _ => follows_wordOperand rfl, fun _ => follows_noOperand rfl,
    fun _ d => ⟨follows_byteOperand rfl, sext16_eq d⟩⟩

/-- A transfer that is taken when a flag is clear. -/
theorem jumpIf_not (cond : Bool) (target : Word) (s : State) :
    jumpIf (!cond) target s = { s with pc := if cond = false then target else s.pc } := by
  cases cond <;> rfl

/-- A transfer that is taken when a byte is not 0. -/
theorem jumpIf_ne_zero (b : Byte) (target : Word) (s : State) :
    jumpIf (b != 0) target s = { s with pc := if b = 0 then s.pc else target } := by
  by_cases h : b = 0
  · rw [if_pos h, h]
    rfl
  · rw [if_neg h, jumpIf, if_pos (bne_iff_ne.mpr h)]

/-- Settles O47: the transfers on Z as they stand, those on NZ by `jumpIf_not`, DJNZ on the B it has just
written by `jumpIf_ne_zero`. -/
theorem conditionalTransfers : Obligations.ConditionalTransfers := by
  refine ⟨fun s lo hi => ⟨?jpNz, ?jpZ⟩, fun s d => ⟨?jrNz, ?jrZ, ?djnz⟩, rfl⟩
  case jpNz => exact follows_wordOperand (congrArg _ (jumpIf_not _ _ s))
  case jpZ => exact follows_wordOperand rfl
  case jrNz => exact follows_byteOperand (congrArg _ (jumpIf_not _ _ s))
  case jrZ => exact follows_byteOperand rfl
  case djnz => exact follows_byteOperand (congrArg _ (jumpIf_ne_zero (hiByte s.bc - 1) _ _))

end Sys2Proof.Machine
end

section
/-! PROOFS. Calls, restarts, pushes, pops and returns (`44_reference_table.md` R209, R238 to R247), through
`Push16` and `Pop16` (`41_step_sequencer.md` R158, R159). -/

namespace Sys2Proof.Machine

theorem word_sub_two (w : Word) : w - 2 = w - 1 - 1 := (BitVec.sub_sub w 1 1).symm

theorem word_add_two (w : Word) : w + 2 = w + 1 + 1 := (BitVec.add_assoc w 1 1).symm

/-- `Push16` puts the word where R158 says, for any map. -/
theorem pushed_push16With (writable : Word → Bool) (v : Word) (s : State) :
    Pushed writable v s (push16With writable v s) := by
  intro x
  have hcond (a : Word) : (x = a ∧ writable x = true) ↔ (writable a = true ∧ x = a) :=
    ⟨fun ⟨e, h⟩ => ⟨e ▸ h, e⟩, fun ⟨h, e⟩ => ⟨e, e ▸ h⟩⟩
  simp only [readByte_push16With, word_sub_two, hcond]

/-- A call pushes as `Push16` does: going to its target writes no memory. -/
theorem pushed_callToWith (writable : Word → Bool) (target : Word) (s : State) :
    Pushed writable s.pc s (callToWith writable target s) :=
  pushed_push16With writable s.pc s

theorem exists_of_follows_push {table : Table} {sel n base alt : Nat} {code ops : List Byte}
    {i : Instr} {v : Word} {s : State}
    (h : Follows table sel code n base alt ops i s (push16With Config.writable v s)) :
    ∃ t, Follows table sel code n base alt ops i s t ∧ t = { s with sp := s.sp - 2, mem := t.mem } ∧
      Pushed Config.writable v s t :=
  ⟨_, h, word_sub_two s.sp ▸ rfl, pushed_push16With _ v s⟩

theorem exists_of_follows_call {table : Table} {sel n base alt : Nat} {code ops : List Byte}
    {i : Instr} {target : Word} {s : State}
    (h : Follows table sel code n base alt ops i s (callToWith Config.writable target s)) :
    ∃ t, Follows table sel code n base alt ops i s t ∧
      t = { s with sp := s.sp - 2, pc := target, mem := t.mem } ∧ Pushed Config.writable s.pc s t :=
  ⟨_, h, word_sub_two s.sp ▸ rfl, pushed_callToWith _ target s⟩

/-- Settles O48: CALL and each of the eight restarts is one call, with its own target. -/
theorem callsAndRestarts : Obligations.CallsAndRestarts := by
  refine ⟨fun s lo hi => ?call, fun s entry hentry => ?restart⟩
  case call => exact exists_of_follows_call (follows_wordOperand rfl)
  case restart =>
    simp only [List.mem_cons, List.not_mem_nil, or_false] at hentry
    obtain rfl | rfl | rfl | rfl | rfl | rfl | rfl | rfl := hentry <;>
      exact exists_of_follows_call (follows_noOperand rfl)

/-- Settles O49: each is one push of its pair. -/
theorem pushes : Obligations.Pushes := by
  refine fun s => ⟨?bc, ?hl, ?af⟩
  all_goals exact exists_of_follows_push (follows_noOperand rfl)

/-- Settles O50: SP is two higher after the two byte reads of `Pop16`, and the word goes to its register. -/
theorem popsAndReturns : Obligations.PopsAndReturns := by
  intro s
  rw [word_add_two]
  refine ⟨?popBc, ?popHl, ?popAf, ?ret, ?retn⟩
  all_goals exact follows_noOperand rfl

end Sys2Proof.Machine
end

section
/-! PROOFS. 16-bit increment and decrement (`44_reference_table.md` R248 to R251). -/

namespace Sys2Proof.Machine

theorem ofNat_toNat_succ (w : Word) : BitVec.ofNat 16 ((w.toNat + 1) % 65536) = w + 1 :=
  BitVec.eq_of_toNat_eq (by simp)

theorem ofNat_toNat_pred (w : Word) : BitVec.ofNat 16 ((w.toNat + 65535) % 65536) = w - 1 :=
  BitVec.eq_of_toNat_eq (by simp [BitVec.toNat_sub, Nat.add_comm])

/-- Settles O51: the arithmetic of words is modulo 65536, and the pair is all that is written. -/
theorem wordIncrementsAndDecrements : Obligations.WordIncrementsAndDecrements := by
  intro s
  simp only [ofNat_toNat_succ, ofNat_toNat_pred]
  refine ⟨?incBc, ?incHl, ?decBc, ?decHl⟩
  all_goals exact follows_noOperand rfl

end Sys2Proof.Machine
end

section
/-! PROOFS. What a write of a half leaves of the other halves (`10_state.md` R22), and so what the 8-bit
instructions leave, which write a result and then F. -/

namespace Sys2Proof.Machine

/-- Two halves of one word are its two ends. -/
theorem isHigh_of_home_eq {reg reg' : Reg8} (hne : reg' ≠ reg) (hhome : reg'.home = reg.home) :
    reg'.isHigh = !reg.isHigh := by
  revert hne hhome
  cases reg <;> cases reg' <;> decide

/-- A write of a half leaves every other half, the other one of its word too. -/
theorem read8_write8_other {reg reg' : Reg8} (hne : reg' ≠ reg) (v : Byte) (s : State) :
    read8 reg' (write8 reg v s) = read8 reg' s := by
  by_cases hhome : reg'.home = reg.home
  · simp only [read8, write8, hhome, isHigh_of_home_eq hne hhome, readReg_writeReg_same]
    cases reg.isHigh
    · exact hiByte_joinBytes _ v
    · exact loByte_joinBytes v _
  · simp only [read8, readReg_write8_other hhome]

theorem read8_write8_f_write8_same {reg : Reg8} (hf : reg ≠ .f) (r v : Byte) (s : State) :
    read8 reg (write8 .f v (write8 reg r s)) = r := by
  rw [read8_write8_other hf, read8_write8_same]

theorem read8_write8_f_write8_other {reg reg' : Reg8} (hf : reg' ≠ .f) (hne : reg' ≠ reg) (r v : Byte)
    (s : State) : read8 reg' (write8 .f v (write8 reg r s)) = read8 reg' s := by
  rw [read8_write8_other hf, read8_write8_other hne]

theorem write8_f_write8_a (r v : Byte) (s : State) :
    write8 .f v (write8 .a r s) = { s with af := joinBytes r v } := by
  have hA : hiByte (write8 .a r s).af = r := read8_write8_same .a r s
  calc write8 .f v (write8 .a r s)
      = { s with af := joinBytes (hiByte (write8 .a r s).af) v } := rfl
    _ = { s with af := joinBytes r v } := by rw [hA]

end Sys2Proof.Machine
end

section
/-! PROOFS. Every flag of a state whose F is one of the flag bytes of the reference table
(`44_reference_table.md` R201, R208, R252 to R256). -/

namespace Sys2Proof.Machine

/-! ### One flag of a mask -/

theorem flag_eq_of_read8_f {t : State} {v : Byte} (hF : read8 .f t = v) (fl : Flag) :
    flag fl t = v.getLsbD fl.bit := by rw [flag, hF]

/-- `SZYX(r)` flag by flag (R201). -/
def szyxFlag (r : Byte) : Flag → Bool
  | .s => r.getLsbD 7
  | .z => decide (r = 0)
  | .y => r.getLsbD 5
  | .x => r.getLsbD 3
  | .hf | .pv | .n | .cf => false

@[simp] theorem getLsbD_szyx_bit (r : Byte) (fl : Flag) :
    (szyx r).getLsbD fl.bit = szyxFlag r fl := by
  rw [getLsbD_szyx r fl.bit fl.bit_lt]
  cases fl <;> rfl

@[simp] theorem getLsbD_flagIf_bit (cond : Bool) (fl fl' : Flag) :
    (flagIf cond fl).getLsbD fl'.bit = (cond && decide (fl' = fl)) := by
  rw [getLsbD_flagIf cond fl fl'.bit fl'.bit_lt]
  cases fl <;> cases fl' <;> rfl

@[simp] theorem getLsbD_keepCf_bit (f : Byte) (fl : Flag) :
    (keepCf f).getLsbD fl.bit = (decide (fl = .cf) && f.getLsbD 0) := by
  rw [getLsbD_keepCf f fl.bit fl.bit_lt]
  cases fl <;> rfl

/-! ### The conditions of HF and PV -/

theorem toNat_lowNibble (b : Byte) : (b &&& 15#8).toNat = b.toNat % 16 :=
  Nat.and_two_pow_sub_one_eq_mod b.toNat 4

theorem lowNibble_eq_iff (b v : Byte) : b &&& 15#8 = v ↔ b.toNat % 16 = v.toNat := by
  rw [← BitVec.toNat_inj, toNat_lowNibble]

/-- `parity` counts the 1 bits (`00_scope.md` R11). -/
theorem parityEven_eq (r : Byte) :
    parityEven r = decide (((List.range 8).filter fun k => r.getLsbD k).length % 2 = 0) := by
  revert r
  decide

theorem and_signBit_ne_zero (b : Byte) : b &&& 0x80 ≠ 0 ↔ b.msb = true := by
  revert b
  decide

/-- A signed sum overflows exactly when it is not the number its byte stands for. -/
theorem saddOverflow_iff (a b : Byte) :
    a.saddOverflow b = true ↔ a.toInt + b.toInt ≠ (a + b).toInt := by
  constructor
  · intro h heq
    have hlow := (a + b).le_toInt
    have hhigh := (a + b).toInt_lt
    simp only [BitVec.saddOverflow, Bool.or_eq_true, decide_eq_true_eq] at h
    omega
  · intro hne
    by_contra h
    exact hne (BitVec.toInt_add_of_not_saddOverflow h).symm

/-- The bit formula of R254 for PV is signed overflow: both say that the operands have one sign and the sum
has the other. -/
theorem signBits_differ_iff (a b : Byte) :
    (a ^^^ (a + b)) &&& (b ^^^ (a + b)) &&& 0x80 ≠ 0 ↔ a.toInt + b.toInt ≠ (a + b).toInt := by
  rw [and_signBit_ne_zero, ← saddOverflow_iff, BitVec.saddOverflow_eq, BitVec.msb_and, BitVec.msb_xor,
    BitVec.msb_xor]
  cases a.msb <;> cases b.msb <;> cases (a + b).msb <;> decide

/-! ### The flag bytes -/

theorem flags_of_incFlags {old r f : Byte} {t : State} (hF : read8 .f t = incFlags old r f) :
    SzyxOf r t ∧ flag .hf t = decide (old.toNat % 16 = 15) ∧ flag .pv t = decide (old = 0x7F) ∧
      flag .n t = false ∧ flag .cf t = f.getLsbD 0 := by
  simp [SzyxOf, flag_eq_of_read8_f hF, incFlags, szyxFlag, lowNibble_eq_iff, beq_eq_decide]

theorem flags_of_decFlags {old r f : Byte} {t : State} (hF : read8 .f t = decFlags old r f) :
    SzyxOf r t ∧ flag .hf t = decide (old.toNat % 16 = 0) ∧ flag .pv t = decide (old = 0x80) ∧
      flag .n t = true ∧ flag .cf t = f.getLsbD 0 := by
  simp [SzyxOf, flag_eq_of_read8_f hF, decFlags, szyxFlag, lowNibble_eq_iff, beq_eq_decide]

theorem flags_of_addFlags {a b : Byte} {t : State} (hF : read8 .f t = addFlags a b (a + b)) :
    SzyxOf (a + b) t ∧ flag .hf t = decide (a.toNat % 16 + b.toNat % 16 > 15) ∧
      flag .pv t = decide (((a ^^^ (a + b)) &&& (b ^^^ (a + b)) &&& 0x80) ≠ 0) ∧
      flag .pv t = decide (a.toInt + b.toInt ≠ (a + b).toInt) ∧
      flag .n t = false ∧ flag .cf t = decide (a.toNat + b.toNat > 255) := by
  simp only [← signBits_differ_iff]
  simp [SzyxOf, flag_eq_of_read8_f hF, addFlags, szyxFlag, toNat_lowNibble, bne, beq_eq_decide,
    -BitVec.toNat_and]

theorem flags_of_rlcFlags {r : Byte} {c : Bool} {t : State} (hF : read8 .f t = rlcFlags r c) :
    SzyxOf r t ∧
      flag .pv t = decide (((List.range 8).filter fun k => r.getLsbD k).length % 2 = 0) ∧
      flag .cf t = c ∧ flag .hf t = false ∧ flag .n t = false := by
  rw [← parityEven_eq]
  simp [SzyxOf, flag_eq_of_read8_f hF, rlcFlags, szyxFlag]

theorem flags_of_ldAIFlags {i f : Byte} {iff2 : Bool} {t : State}
    (hF : read8 .f t = ldAIFlags i f iff2) :
    SzyxOf i t ∧ flag .pv t = iff2 ∧ flag .cf t = f.getLsbD 0 ∧ flag .hf t = false ∧
      flag .n t = false := by
  simp [SzyxOf, flag_eq_of_read8_f hF, ldAIFlags, szyxFlag]

end Sys2Proof.Machine
end

section
/-! PROOFS. 8-bit arithmetic, XOR A, RLC B and LD A,I (`44_reference_table.md` R208, R252 to R256): a result
written to A or B, then F. -/

namespace Sys2Proof.Machine

/-- Settles O52: the result is in A or B, the other halves are kept, and F is the flag byte of INC or DEC. -/
theorem byteIncrementAndDecrement : Obligations.ByteIncrementAndDecrement := by
  refine fun s => ⟨?inc, ?dec⟩
  case inc =>
    exact ⟨_, follows_noOperand rfl, rfl, read8_write8_f_write8_same (by decide) _ _ s,
      flags_of_incFlags (read8_write8_same .f _ _)⟩
  case dec =>
    exact ⟨_, follows_noOperand rfl, rfl, read8_write8_f_write8_same (by decide) _ _ s,
      read8_write8_f_write8_other (by decide) (by decide) _ _ s,
      read8_write8_f_write8_other (by decide) (by decide) _ _ s,
      flags_of_decFlags (read8_write8_same .f _ _)⟩

/-- Settles O53: A is the sum of bytes, and F the flag byte of ADD, whose PV `signBits_differ_iff` reads both
ways. -/
theorem addSetsEveryFlag : Obligations.AddSetsEveryFlag := by
  intro s
  refine ⟨_, follows_noOperand rfl, rfl, ?_⟩
  rw [read8_write8_f_write8_same (by decide)]
  exact ⟨BitVec.toNat_add _ _, flags_of_addFlags (read8_write8_same .f _ _)⟩

/-- XOR A (R255) leaves A 0, and F the flag byte of the result 0: Z and PV. -/
theorem exec_xorA (s : State) : exec .xorA s = .next { s with af := 0x0044 } := by
  have hzero : read8 .a s ^^^ read8 .a s = 0 := BitVec.xor_self
  have hAF : joinBytes 0 (xorFlags 0) = 0x0044 := by decide
  change execXorA s = _
  simp only [execXorA, hzero, write8_f_write8_a, hAF]

/-- A rotate by one place moves each bit but the top one up. -/
theorem getLsbD_rotateLeft_one_succ (b : Byte) {k : Nat} (hk : k < 7) :
    (b.rotateLeft 1).getLsbD (k + 1) = b.getLsbD k := by
  have hlow : decide (k + 1 < 1 % 8) = false := by simp
  have hk8 : decide (k + 1 < 8) = true := decide_eq_true (by omega)
  rw [BitVec.getLsbD_rotateLeft, hlow, hk8]
  rfl

/-- Settles O54: XOR A by `exec_xorA`; RLC B rotates B, and F is the flag byte of RLC. -/
theorem xorAndRotate : Obligations.XorAndRotate := by
  intro s
  refine ⟨follows_noOperand (exec_xorA s), _, follows_noOperand rfl, rfl,
    read8_write8_f_write8_other (by decide) (by decide) _ _ s,
    read8_write8_f_write8_other (by decide) (by decide) _ _ s, ?_⟩
  rw [read8_write8_f_write8_same (by decide)]
  exact ⟨fun k => getLsbD_rotateLeft_one_succ _, BitVec.getLsbD_rotateLeft,
    flags_of_rlcFlags (read8_write8_same .f _ _)⟩

/-- Settles O55: A takes I, and F is the flag byte of LD A,I. -/
theorem loadAFromIShowsIff2 : Obligations.LoadAFromIShowsIff2 := fun s =>
  ⟨_, follows_noOperand rfl, rfl, read8_write8_f_write8_same (by decide) _ _ s,
    flags_of_ldAIFlags (read8_write8_same .f _ _)⟩

end Sys2Proof.Machine
end

section
/-! PROOFS. Interrupt control (`44_reference_table.md` R202 to R207), and the step boundary after EI
(`60_exceptions.md` R269, R275, R282). -/

namespace Sys2Proof.Machine

/-- A request that IFF1 lets through is accepted at the next boundary, when no NMI goes first (R269). -/
theorem stepWith_of_int {p : Params} {table : Table} {s : State} (hfatal : s.fatal = false)
    (hnmip : s.nmip = false) (hintp : s.intp = true) (hiff1 : s.iff1 = true) :
    stepWith p table s = acceptInt p table s { s with intp := false } := by
  simp [stepWith, hfatal, hnmip, hintp, hiff1]

theorem acceptInt_mode1 (p : Params) (table : Table) (s0 : State) {s : State} (him : s.im = .mode1) :
    acceptInt p table s0 s = report p.im1AckCycles (takeInt1 p s) := by
  simp only [acceptInt, him]

theorem iff1_of_exec_ei {s u : State} (h : exec .ei s = .next u) : u.iff1 = true := by
  cases h
  rfl

/-- Settles O56: six single writes; a collision decodes as pattern ED does (R105); and EI leaves IFF1 set, so
the step after it accepts a pending request. -/
theorem interruptControl : Obligations.InterruptControl := by
  refine ⟨fun s => ⟨?di, ?ei, ?im0, ?im1, ?im2, ?ldIA⟩, fun p => ?collision,
    fun p table s u hei hfatal hnmip hintp him => ?boundary⟩
  case collision =>
    exact decodeSelector_collision (isPrefixByte_iff.mpr ⟨p, rfl⟩) rfl
      (by decide : ¬ IsPrefixByte 0x47)
  case boundary =>
    rw [stepWith_of_int hfatal hnmip hintp (iff1_of_exec_ei hei),
      acceptInt_mode1 p table u (s := { u with intp := false }) him]
    exact ⟨_, rfl, rfl⟩
  all_goals exact follows_noOperand rfl

end Sys2Proof.Machine
end

section
/-! PROOFS. Cycle accounting: TCYC grows by the count each step returns, over any run of steps, and no host
operation but reset touches it (`70_reset_and_hazards.md` R317, `41_step_sequencer.md` R153). -/

namespace Sys2Proof.Machine

/-! ### One step -/

/-- The two ways a step called on `s` ends: it reports a count on a state whose total is still that of `s`
(R153), or it raises `FatalDecode` on `s` itself (R260). -/
def EndsAccounted (s : State) (out : Host.Outcome Returned Fault Refusal) : Prop :=
  (∃ cycles u, u.tcyc = s.tcyc ∧ out = report cycles u) ∨
    ∃ start b0 b1 b2, out = reportFatal start b0 b1 b2 s

theorem endsAccounted_report {s u : State} (cycles : Nat) (h : u.tcyc = s.tcyc) :
    EndsAccounted s (report cycles u) := .inl ⟨cycles, u, h, rfl⟩

theorem endsAccounted_reportFatal (start : Word) (b0 b1 b2 : Byte) (s : State) :
    EndsAccounted s (reportFatal start b0 b1 b2 s) := .inr ⟨start, b0, b1, b2, rfl⟩

/-- TCYC is hidden from the transition function, so the table does not matter (R142). -/
theorem endsAccounted_runDescriptor {s u : State} (d : Descriptor) (ops : List Byte) (extra : Nat)
    (h : u.tcyc = s.tcyc) : EndsAccounted s (runDescriptor d ops extra u) :=
  endsAccounted_report _ (by rw [runExec_eq, keepSequencer_tcyc, h])

theorem endsAccounted_ordinaryStep (table : Table) {s u : State} (h : u.tcyc = s.tcyc) :
    EndsAccounted s (ordinaryStep table s u) := by
  unfold ordinaryStep
  split
  · exact endsAccounted_reportFatal ..
  · exact endsAccounted_runDescriptor _ _ _ (by rw [advance_tcyc, h])

theorem endsAccounted_acceptInt (p : Params) (table : Table) {s u : State} (h : u.tcyc = s.tcyc) :
    EndsAccounted s (acceptInt p table s u) := by
  unfold acceptInt
  split
  · unfold acceptInt0
    split
    · exact endsAccounted_reportFatal ..
    · exact endsAccounted_runDescriptor _ _ _ (by rw [clearForInt_tcyc, h])
  · exact endsAccounted_report _ h
  · exact endsAccounted_report _ h

theorem endsAccounted_stepWith (p : Params) (table : Table) {s : State} (hopen : s.fatal = false) :
    EndsAccounted s (stepWith p table s) := by
  obtain ⟨hfatal, -⟩ | ⟨-, -, e⟩ | ⟨-, -, -, -, e⟩ | ⟨-, -, -, -, e⟩ | ⟨-, -, -, -, e⟩ :=
    stepWith_cases p table s
  · exact absurd (hopen.symm.trans hfatal) Bool.false_ne_true
  · rw [e]; exact endsAccounted_report _ rfl
  · rw [e]; exact endsAccounted_acceptInt p table rfl
  · rw [e]; exact endsAccounted_report _ rfl
  · rw [e]; exact endsAccounted_ordinaryStep table rfl

/-- A step that answers was called in an open session (R145). -/
theorem fatal_eq_false_of_stepWith_next {p : Params} {table : Table} {s : State} {r : Returned}
    (h : stepWith p table s = .next r) : s.fatal = false := by
  cases hfatal : s.fatal with
  | false => rfl
  | true => simp [stepWith, hfatal] at h

/-- One step adds to TCYC the count it returns, and nothing when it returns none (R153, R260). -/
theorem stepWith_tcyc {p : Params} {table : Table} {s : State} {r : Returned}
    (h : stepWith p table s = .next r) : r.state.tcyc = s.tcyc + r.cycles.getD 0 := by
  obtain ⟨cycles, u, hu, e⟩ | ⟨start, b0, b1, b2, e⟩ :=
    endsAccounted_stepWith p table (fatal_eq_false_of_stepWith_next h)
  · cases h.symm.trans e
    exact congrArg (· + cycles) hu
  · cases h.symm.trans e
    rfl

/-! ### Runs of steps -/

/-- A run of `k + 1` steps that returns a sum is a step that returns a count and a run of `k` steps that
returns the rest. -/
theorem runSteps_succ_eq_some {stepper : State → Host.Outcome Returned Fault Refusal} {k sum : Nat}
    {s t : State} (h : runSteps stepper (k + 1) s = .next ⟨some sum, t⟩) :
    ∃ c s' rest, stepper s = .next ⟨some c, s'⟩ ∧ runSteps stepper k s' = .next ⟨some rest, t⟩ ∧
      sum = c + rest := by
  rw [runSteps] at h
  split at h
  · next c s' hstep =>
    split at h
    · next rest t' hrest =>
      cases h
      exact ⟨c, s', rest, hstep, hrest, rfl⟩
    all_goals cases h
  all_goals cases h

theorem runSteps_tcyc {p : Params} {table : Table} {k sum : Nat} {s t : State}
    (h : runSteps (stepWith p table) k s = .next ⟨some sum, t⟩) : t.tcyc = s.tcyc + sum := by
  induction k generalizing s sum with
  | zero =>
    cases h
    rfl
  | succ k ih =>
    obtain ⟨c, s', rest, hstep, hrest, rfl⟩ := runSteps_succ_eq_some h
    have hhead : s'.tcyc = s.tcyc + c := stepWith_tcyc hstep
    calc t.tcyc = s'.tcyc + rest := ih hrest
      _ = s.tcyc + (c + rest) := by rw [hhead, Nat.add_assoc]

/-! ### Host operations -/

/-- A host operation that answers was called in an open session (R190). -/
theorem fatal_eq_false_of_hostOp_next {p : Params} {op : HostOp} {s t : State}
    (h : hostOp p op s = .next t) : s.fatal = false := by
  cases hfatal : s.fatal with
  | false => rfl
  | true => simp [hostOp, hfatal] at h

/-- Reset clears TCYC; no other host operation touches it (R180, R317). -/
theorem hostOp_tcyc {p : Params} {op : HostOp} {s t : State} (h : hostOp p op s = .next t) :
    if op = .reset then t.tcyc = 0 else t.tcyc = s.tcyc := by
  have hopen := fatal_eq_false_of_hostOp_next h
  simp only [hostOp, hopen, Bool.false_eq_true, if_false] at h
  cases op with
  | reset => cases h; rfl
  | setMode _ | requestInt | requestNmi | poke _ _ => cases h; rfl
  | load image =>
    dsimp only at h
    split at h
    · cases h; rfl
    · cases h

/-- Settles O30: the run by induction on its number of steps, from what one step adds to TCYC. -/
theorem noDrift : Obligations.NoDrift :=
  ⟨fun _ _ => ⟨fun _ _ _ _ h => runSteps_tcyc h, fun _ _ h => stepWith_tcyc h⟩,
    fun _ _ _ _ h => hostOp_tcyc h⟩

end Sys2Proof.Machine
end

section
/-! PROOFS. Decode of encode (`30_encoding.md`, `40_decoder.md`): the decoder reads no byte past the
instruction, so it is enough to decode each encoding by itself. -/

namespace Sys2Proof.Machine

/-! ### What the scan and the decoder read -/

/-- The number of bytes the scan collects (R103, R104). -/
def scanLength : Scan → Nat
  | .opcode pat _ => pat.len
  | .fatal _ _ _ => 3

theorem scan_fatal {src : Nat → Byte} {p q r : Prefix} (h0 : src 0 = p.byte) (h1 : src 1 = q.byte)
    (h2 : src 2 = r.byte) : scan src = .fatal p q r := by
  simp only [scan, h0, h1, h2, prefixOf_byte]

/-- The scan depends on the bytes it collects only. -/
theorem scan_congr {src src' : Nat → Byte} (h : ∀ k, k < scanLength (scan src') → src k = src' k) :
    scan src = scan src' := by
  obtain ⟨n0, e⟩ | ⟨p, e0, n1, e⟩ | ⟨p, q, e0, e1, n2, e⟩ | ⟨p, q, r, e0, e1, e2, e⟩ := scan_cases src'
  all_goals simp only [e, scanLength, Pattern.len] at h ⊢
  · have a0 := h 0 (by decide)
    rw [← a0] at n0 ⊢
    exact scan_bare (not_isPrefixByte_iff.mpr n0)
  · have a1 := h 1 (by decide)
    rw [← a1] at n1 ⊢
    exact scan_one ((h 0 (by decide)).trans e0) (not_isPrefixByte_iff.mpr n1)
  · have a2 := h 2 (by decide)
    rw [← a2] at n2 ⊢
    exact scan_two ((h 0 (by decide)).trans e0) ((h 1 (by decide)).trans e1)
      (not_isPrefixByte_iff.mpr n2)
  · exact scan_fatal ((h 0 (by decide)).trans e0) ((h 1 (by decide)).trans e1)
      ((h 2 (by decide)).trans e2)

theorem operandBytes_congr {src src' : Nat → Byte} {len n : Nat}
    (h : ∀ k, k < len + n → src k = src' k) : operandBytes src len n = operandBytes src' len n :=
  List.map_congr_left fun i hi => h (len + i) (Nat.add_lt_add_left (List.mem_range.mp hi) len)

theorem decode_of_scan_mapped {src : Nat → Byte} {pat : Pattern} {op : Byte} {row : Row}
    (hscan : scan src = .opcode pat op) (hrow : findRow machineRows (pat.selector op) = some row) :
    decode src = ⟨row.make (operandBytes src pat.len row.n), pat.len, row.n⟩ := by
  simp only [decode, hscan, hrow]

theorem decode_of_scan_unmapped {src : Nat → Byte} {pat : Pattern} {op : Byte}
    (hscan : scan src = .opcode pat op) (hrow : findRow machineRows (pat.selector op) = none) :
    decode src = ⟨unmappedInstr pat op, pat.len, 0⟩ := by
  simp only [decode, hscan, hrow]

theorem decode_of_scan_fatal {src : Nat → Byte} {p q r : Prefix} (hscan : scan src = .fatal p q r) :
    decode src = ⟨fatalInstr p q r, 0, 0⟩ := by
  simp only [decode, hscan]

/-- The three things the decoder can do: three prefixes, a row of the table, an unmapped word. -/
theorem decode_cases (src : Nat → Byte) :
    (∃ p q r, scan src = .fatal p q r ∧ decode src = ⟨fatalInstr p q r, 0, 0⟩) ∨
    (∃ pat op row, scan src = .opcode pat op ∧ findRow machineRows (pat.selector op) = some row ∧
      decode src = ⟨row.make (operandBytes src pat.len row.n), pat.len, row.n⟩) ∨
    (∃ pat op, scan src = .opcode pat op ∧ findRow machineRows (pat.selector op) = none ∧
      decode src = ⟨unmappedInstr pat op, pat.len, 0⟩) := by
  cases hscan : scan src with
  | fatal p q r => exact .inl ⟨p, q, r, rfl, decode_of_scan_fatal hscan⟩
  | opcode pat op =>
    cases hrow : findRow machineRows (pat.selector op) with
    | some row => exact .inr (.inl ⟨pat, op, row, rfl, hrow, decode_of_scan_mapped hscan hrow⟩)
    | none => exact .inr (.inr ⟨pat, op, rfl, hrow, decode_of_scan_unmapped hscan hrow⟩)

/-- The decoder depends on the bytes the scan collects and on the operand bytes only. -/
theorem decode_congr {src src' : Nat → Byte}
    (h : ∀ k, k < scanLength (scan src') + (decode src').n → src k = src' k) :
    decode src = decode src' := by
  have hscan : scan src = scan src' := scan_congr fun k hk => h k (Nat.lt_add_right _ hk)
  obtain ⟨p, q, r, e, d⟩ | ⟨pat, op, row, e, hrow, d⟩ | ⟨pat, op, e, hrow, d⟩ := decode_cases src'
  · rw [d, decode_of_scan_fatal (hscan.trans e)]
  · rw [d, decode_of_scan_mapped (hscan.trans e) hrow,
      operandBytes_congr (src := src) (src' := src') (by simpa only [e, d, scanLength] using h)]
  · rw [d, decode_of_scan_unmapped (hscan.trans e) hrow]

/-! ### Decoding one encoding -/

/-- The encoding of an instruction, by itself, decodes to it, and the decoder reads all of its bytes. -/
def EncodingDecodes (i : Instr) : Prop :=
  (decode (listSource (encode i))).instr = i ∧
    scanLength (scan (listSource (encode i))) + (decode (listSource (encode i))).n = (encode i).length

/-- The bytes of a pattern before the final byte (R84). -/
def patternBytes : Pattern → List Byte
  | .bare => []
  | .one p => [p.byte]
  | .two p q => [p.byte, q.byte]

theorem encode_unmappedInstr (pat : Pattern) (op : Byte) :
    encode (unmappedInstr pat op) = patternBytes pat ++ [op] := by
  obtain _ | p | ⟨p, q⟩ := pat
  · rfl
  · cases p <;> rfl
  · cases p <;> cases q <;> rfl

/-- A pattern constructor is well formed when the final byte is no prefix and its selector is unmapped. -/
theorem wellFormed_unmappedInstr (pat : Pattern) (op : Byte) :
    (unmappedInstr pat op).wellFormed =
      (finalByteOk op && !mappedSelectors.contains (pat.selector op)) := by
  obtain _ | p | ⟨p, q⟩ := pat
  · rfl
  · cases p <;> rfl
  · cases p <;> cases q <;> rfl

theorem wellFormed_unmappedInstr_iff {pat : Pattern} {op : Byte} :
    (unmappedInstr pat op).wellFormed = true ↔
      ¬ IsPrefixByte op ∧ findRow machineRows (pat.selector op) = none := by
  rw [wellFormed_unmappedInstr, not_isPrefixByte_iff, prefixOf_eq_none, findRow_machineRows_none]
  simp

/-- The scan of the bytes of a pattern and a final byte. -/
theorem scan_patternBytes {op : Byte} (hop : ¬ IsPrefixByte op) (pat : Pattern) :
    scan (listSource (patternBytes pat ++ [op])) = .opcode pat op := by
  cases pat with
  | bare => exact scan_bare hop
  | one p => exact scan_one rfl hop
  | two p q => exact scan_two rfl rfl hop

theorem length_patternBytes (pat : Pattern) (op : Byte) : (patternBytes pat ++ [op]).length = pat.len := by
  cases pat <;> rfl

theorem encodingDecodes_unmappedInstr (pat : Pattern) (op : Byte)
    (hwf : (unmappedInstr pat op).wellFormed = true) : EncodingDecodes (unmappedInstr pat op) := by
  obtain ⟨hop, hrow⟩ := wellFormed_unmappedInstr_iff.mp hwf
  have hscan := scan_patternBytes hop pat
  rw [EncodingDecodes, encode_unmappedInstr, decode_of_scan_unmapped hscan hrow, hscan,
    length_patternBytes]
  exact ⟨rfl, rfl⟩

/-- A row's or a three-prefix instruction's encoding decodes by computation, but that a word operand is
put together again from its two bytes. -/
theorem encodingDecodes {i : Instr} (hwf : i.wellFormed = true) : EncodingDecodes i := by
  cases i
  case pfxNone o => exact encodingDecodes_unmappedInstr .bare o hwf
  case pfxDd o => exact encodingDecodes_unmappedInstr (.one .dd) o hwf
  case pfxFd o => exact encodingDecodes_unmappedInstr (.one .fd) o hwf
  case pfxEd o => exact encodingDecodes_unmappedInstr (.one .ed) o hwf
  case pfxCb o => exact encodingDecodes_unmappedInstr (.one .cb) o hwf
  case pfxDdDd o => exact encodingDecodes_unmappedInstr (.two .dd .dd) o hwf
  case pfxDdFd o => exact encodingDecodes_unmappedInstr (.two .dd .fd) o hwf
  case pfxDdCb o => exact encodingDecodes_unmappedInstr (.two .dd .cb) o hwf
  case pfxFdDd o => exact encodingDecodes_unmappedInstr (.two .fd .dd) o hwf
  case pfxFdFd o => exact encodingDecodes_unmappedInstr (.two .fd .fd) o hwf
  case pfxFdCb o => exact encodingDecodes_unmappedInstr (.two .fd .cb) o hwf
  case pfxEdDd o => exact encodingDecodes_unmappedInstr (.two .ed .dd) o hwf
  case pfxEdFd o => exact encodingDecodes_unmappedInstr (.two .ed .fd) o hwf
  case pfxEdCb o => exact encodingDecodes_unmappedInstr (.two .ed .cb) o hwf
  case pfxCbDd o => exact encodingDecodes_unmappedInstr (.two .cb .dd) o hwf
  case pfxCbFd o => exact encodingDecodes_unmappedInstr (.two .cb .fd) o hwf
  case pfxCbCb o => exact encodingDecodes_unmappedInstr (.two .cb .cb) o hwf
  case pfxDdEd o => exact encodingDecodes_unmappedInstr (.two .dd .ed) o hwf
  case pfxFdEd o => exact encodingDecodes_unmappedInstr (.two .fd .ed) o hwf
  case pfxEdEd o => exact encodingDecodes_unmappedInstr (.two .ed .ed) o hwf
  case pfxCbEd o => exact encodingDecodes_unmappedInstr (.two .cb .ed) o hwf
  case ldBcNn nn | ldDeNn nn | ldHlNn nn | ldMemNnHl nn | ldHlMemNn nn | ldSpNn nn | ldMemNnA nn
      | ldAMemNn nn | jpNzNn nn | jpNn nn | jpZNn nn | callNn nn | ldIxNn nn | ldIyNn nn =>
    exact ⟨congrArg _ (joinBytes_hiByte_loByte nn), rfl⟩
  all_goals exact ⟨rfl, rfl⟩

/-- Settles O17: the decoder reads of the source just the bytes of the encoding. -/
theorem decodeOfEncode : Obligations.DecodeOfEncode := by
  intro i src hwf hsrc
  obtain ⟨hinstr, hlen⟩ := encodingDecodes hwf
  have hdecode : decode src = decode (listSource (encode i)) :=
    decode_congr fun k hk => hsrc k (hlen ▸ hk)
  have hscan : scan src = scan (listSource (encode i)) :=
    scan_congr fun k hk => hsrc k (hlen ▸ Nat.lt_add_right _ hk)
  refine ⟨hdecode ▸ hinstr, ?_⟩
  rw [hdecode, ← hlen]
  obtain ⟨p, q, r, e, d⟩ | ⟨pat, op, row, e, -, d⟩ | ⟨pat, op, e, -, d⟩ :=
    decode_cases (listSource (encode i))
  · refine .inr ⟨by rw [d], p.byte, q.byte, r.byte, ?_⟩
    simp only [decodeSelector, hscan, e]
  all_goals exact .inl (by rw [d, e]; rfl)

end Sys2Proof.Machine
end

section
/-! PROOFS. What each instruction leaves unchanged (`10_state.md` sections 3, 4, 7; `44_reference_table.md`
R258, R259), and what an instruction does under another map WRITABLE (`20_memory.md` R60). -/

namespace Sys2Proof.Machine

section Frame

variable {i : Instr} {s t : State} (hexec : exec i s = .next t)
include hexec

/-! ### Shadow pairs, index registers and IR -/

theorem exec_afx (hi : i ≠ .exAfAf) : t.afx = s.afx := by
  cases i
  case exAfAf => exact absurd rfl hi
  all_goals cases hexec; rfl

theorem exec_shadows (hi : i ≠ .exx) : t.bcx = s.bcx ∧ t.dex = s.dex ∧ t.hlx = s.hlx := by
  cases i
  case exx => exact absurd rfl hi
  all_goals cases hexec; exact ⟨rfl, rfl, rfl⟩

theorem exec_ix (hi : ∀ nn, i ≠ .ldIxNn nn) : t.ix = s.ix := by
  cases i
  case ldIxNn nn => exact absurd rfl (hi nn)
  all_goals cases hexec; rfl

theorem exec_iy (hi : ∀ nn, i ≠ .ldIyNn nn) : t.iy = s.iy := by
  cases i
  case ldIyNn nn => exact absurd rfl (hi nn)
  all_goals cases hexec; rfl

theorem exec_ir (hi : i ≠ .ldIA) : t.ir = s.ir := by
  cases i
  case ldIA => exact absurd rfl hi
  all_goals cases hexec; rfl

/-! ### Flip-flops, IM and HALT -/

theorem exec_flipFlops (hi : writesFlipFlops i = false) : t.iff1 = s.iff1 ∧ t.iff2 = s.iff2 := by
  cases i
  case di | ei | retn => cases hi
  all_goals cases hexec; exact ⟨rfl, rfl⟩

/-- DI and EI leave the flip-flops equal, and RETN is the only other writer (R36). -/
theorem exec_flipFlops_equal (hi : i ≠ .retn) :
    (t.iff1 = s.iff1 ∧ t.iff2 = s.iff2) ∨ t.iff1 = t.iff2 := by
  cases hw : writesFlipFlops i with
  | false => exact .inl (exec_flipFlops hexec hw)
  | true =>
    cases i
    case retn => exact absurd rfl hi
    case di | ei => cases hexec; exact .inr rfl
    all_goals cases hw

theorem exec_im (hi : writesIm i = false) : t.im = s.im := by
  cases i
  case im0 | im1 | im2 => cases hi
  all_goals cases hexec; rfl

theorem exec_halt (hi : i ≠ .halt) : t.halt = s.halt := by
  cases i
  case halt => exact absurd rfl hi
  all_goals cases hexec; rfl

/-! ### F, memory, SP and PC -/

/-- The loads of A write the high byte of AF; no other instruction without a flags line writes AF. -/
theorem exec_f (hi : writesF i = false) : read8 .f t = read8 .f s := by
  cases i
  case incA | decB | addAB | xorA | rlcB | ldAI | popAf | exAfAf => cases hi
  case ldAN | ldAB | ldAMemHl | ldAMemNn | ldAIxd =>
    cases hexec
    exact read8_write8_other (by decide) _ s
  all_goals cases hexec; rfl

theorem exec_mem (hi : writesMemory i = false) : t.mem = s.mem := by
  cases i
  case ldMemHlA | ldMemNnA | ldMemNnHl | callNn | pushBc | pushHl | pushAf | rst00 | rst08 | rst10
      | rst18 | rst20 | rst28 | rst30 | rst38 => cases hi
  all_goals cases hexec; rfl

theorem exec_sp (hi : writesSp i = false) : t.sp = s.sp := by
  cases i
  case callNn | pushBc | pushHl | pushAf | rst00 | rst08 | rst10 | rst18 | rst20 | rst28 | rst30
      | rst38 | popBc | popHl | popAf | ret | retn | ldSpNn | ldSpHl => cases hi
  all_goals cases hexec; rfl

theorem exec_pc (hi : writesPc i = false) : t.pc = s.pc := by
  cases i
  case jpNn | jpNzNn | jpZNn | jpHl | jrE | jrNzE | jrZE | djnzE | callNn | ret | retn | rst00 | rst08
      | rst10 | rst18 | rst20 | rst28 | rst30 | rst38 | synJcond => cases hi
  all_goals cases hexec; rfl

end Frame

/-! ### The stores, for any map -/

/-- The four ways an instruction stores, the same for every map: a byte, a word, a push, a call (R214, R216,
R225, R238, R240, R242 to R244). -/
theorem execWith_of_writesMemory {i : Instr} (hi : writesMemory i = true) (s : State) :
    (∃ a v, ∀ writable, execWith writable i s = .next (storeByte writable a v s)) ∨
    (∃ a v, ∀ writable, execWith writable i s = .next (writeWordWith writable a v s)) ∨
    (∃ v, ∀ writable, execWith writable i s = .next (push16With writable v s)) ∨
    ∃ target, ∀ writable, execWith writable i s = .next (callToWith writable target s) := by
  cases i
  case ldMemHlA | ldMemNnA => exact .inl ⟨_, _, fun _ => rfl⟩
  case ldMemNnHl => exact .inr (.inl ⟨_, _, fun _ => rfl⟩)
  case pushBc | pushHl | pushAf => exact .inr (.inr (.inl ⟨_, fun _ => rfl⟩))
  case callNn | rst00 | rst08 | rst10 | rst18 | rst20 | rst28 | rst30 | rst38 =>
    exact .inr (.inr (.inr ⟨_, fun _ => rfl⟩))
  all_goals cases hi

/-- `u` is `t` but for the bytes where the map is false, which are those of `s` (R60). -/
def StoresThrough (writable : Word → Bool) (s t u : State) : Prop :=
  u = { t with mem := u.mem } ∧
    ∀ x, readByte x u = if writable x = true then readByte x t else readByte x s

theorem storesThrough_of_mem_eq (writable : Word → Bool) {s t : State} (h : t.mem = s.mem) :
    StoresThrough writable s t t :=
  ⟨rfl, fun x => by rw [readByte_congr h, ite_self]⟩

/-- A byte that goes to `a`, where the map is true, or else stays as before. -/
theorem ite_writable_and_eq (writable : Word → Bool) (x a : Word) (v old rest : Byte) :
    (if writable a = true ∧ x = a then v else if writable x = true then rest else old) =
      if writable x = true then (if x = a then v else rest) else old := by
  by_cases hx : x = a
  · subst hx
    by_cases hw : writable x = true <;> simp [hw]
  · simp [hx]

/-- The same of a byte over which nothing else is stored. -/
theorem ite_writable_eq (writable : Word → Bool) (x a : Word) (v old : Byte) :
    (if writable a = true ∧ x = a then v else old) =
      if writable x = true then (if x = a then v else old) else old := by
  rw [← ite_writable_and_eq, ite_self]

theorem storesThrough_storeByte (writable : Word → Bool) (a : Word) (v : Byte) (s : State) :
    StoresThrough writable s (storeByte Config.writable a v s) (storeByte writable a v s) := by
  refine ⟨rfl, fun x => ?_⟩
  rw [readByte_storeByte, readByte_storeByte, ite_writable_eq writable]
  simp only [Config.writable, true_and]

theorem storesThrough_writeWordWith (writable : Word → Bool) (a v : Word) (s : State) :
    StoresThrough writable s (writeWordWith Config.writable a v s) (writeWordWith writable a v s) := by
  refine ⟨rfl, fun x => ?_⟩
  rw [readByte_writeWordWith, readByte_writeWordWith, ite_writable_eq writable x a,
    ite_writable_and_eq writable]
  simp only [Config.writable, true_and]

theorem storesThrough_push16With (writable : Word → Bool) (v : Word) (s : State) :
    StoresThrough writable s (push16With Config.writable v s) (push16With writable v s) := by
  refine ⟨rfl, fun x => ?_⟩
  rw [readByte_push16With, readByte_push16With, ite_writable_eq writable x (s.sp - 1),
    ite_writable_and_eq writable]
  simp only [Config.writable, true_and]

theorem storesThrough_callToWith (writable : Word → Bool) (target : Word) (s : State) :
    StoresThrough writable s (callToWith Config.writable target s) (callToWith writable target s) :=
  ⟨rfl, (storesThrough_push16With writable s.pc s).2⟩

/-- With another map an instruction does the same, but for what it stores where that map is false. -/
theorem exists_execWith_storesThrough (writable : Word → Bool) {i : Instr} {s t : State}
    (hexec : exec i s = .next t) :
    ∃ u, execWith writable i s = .next u ∧ StoresThrough writable s t u := by
  cases hi : writesMemory i with
  | false =>
    exact ⟨t, (execWith_of_not_writesMemory writable s hi).trans hexec,
      storesThrough_of_mem_eq writable (exec_mem hexec hi)⟩
  | true =>
    rw [← execWith_default] at hexec
    obtain ⟨a, v, h⟩ | ⟨a, v, h⟩ | ⟨v, h⟩ | ⟨target, h⟩ := execWith_of_writesMemory hi s <;>
      cases (h Config.writable).symm.trans hexec
    · exact ⟨_, h writable, storesThrough_storeByte writable a v s⟩
    · exact ⟨_, h writable, storesThrough_writeWordWith writable a v s⟩
    · exact ⟨_, h writable, storesThrough_push16With writable v s⟩
    · exact ⟨_, h writable, storesThrough_callToWith writable target s⟩

/-- Conversely, what an instruction does with a map is what `exec` does, but for the bytes of memory. -/
theorem exists_exec_of_execWith {writable : Word → Bool} {i : Instr} {s u : State}
    (h : execWith writable i s = .next u) :
    ∃ t, exec i s = .next t ∧ StoresThrough writable s t u := by
  obtain ⟨t, ht⟩ := execWith_next Config.writable i s
  rw [execWith_default] at ht
  obtain ⟨u', hu', hthrough⟩ := exists_execWith_storesThrough writable ht
  cases h.symm.trans hu'
  exact ⟨t, ht, hthrough⟩

/-- Every instruction keeps the canonical form of memory. -/
theorem execWith_mem_wf {writable : Word → Bool} {i : Instr} {s u : State}
    (h : execWith writable i s = .next u) (hwf : s.mem.wf = true) : u.mem.wf = true := by
  cases hi : writesMemory i with
  | false =>
    rw [execWith_of_not_writesMemory writable s hi] at h
    rw [exec_mem h hi]
    exact hwf
  | true =>
    obtain ⟨a, v, e⟩ | ⟨a, v, e⟩ | ⟨v, e⟩ | ⟨target, e⟩ := execWith_of_writesMemory hi s <;>
      cases (e writable).symm.trans h
    · exact storeByte_wf writable a v hwf
    · exact writeWordWith_wf writable a v hwf
    · exact push16With_wf writable v hwf
    · exact push16With_wf writable s.pc hwf

end Sys2Proof.Machine
end

section
/-! PROOFS. What an instruction makes of the sequencer's own items (`41_step_sequencer.md` R142,
`60_exceptions.md` R260), and what it keeps of the invariant. -/

namespace Sys2Proof.Machine

/-! ### The sequencer's own items -/

/-- An instruction that neither reads nor writes INTP, NMIP, TCYC, FATAL and its record (R142). -/
def IgnoresSequencer (i : Instr) : Prop :=
  ∀ s, ∃ t, exec i s = .next t ∧
    (t.intp = s.intp ∧ t.nmip = s.nmip ∧ t.tcyc = s.tcyc ∧ t.fatal = s.fatal ∧
      t.fatalInfo = s.fatalInfo) ∧
    ∀ a b c d e, exec i { s with intp := a, nmip := b, tcyc := c, fatal := d, fatalInfo := e } =
      .next { t with intp := a, nmip := b, tcyc := c, fatal := d, fatalInfo := e }

theorem ignoresSequencer_of_call {i : Instr} {target : Word}
    (h : ∀ s, exec i s = .next (callToWith Config.writable target s)) : IgnoresSequencer i :=
  fun s => ⟨_, h s, ⟨rfl, rfl, rfl, rfl, rfl⟩, fun _ _ _ _ _ => h _⟩

theorem ignoresSequencer_retn : IgnoresSequencer .retn :=
  fun _ => ⟨_, rfl, ⟨rfl, rfl, rfl, rfl, rfl⟩, fun _ _ _ _ _ => rfl⟩

/-- Each three-prefix constructor raises `FatalDecode` with its own bytes; every other instruction ignores
the sequencer's items. -/
theorem isFatal_or_ignoresSequencer (i : Instr) :
    (∃ b0 b1 b2, IsPrefixByte b0 ∧ IsPrefixByte b1 ∧ IsPrefixByte b2 ∧ IsFatal i b0 b1 b2) ∨
      IgnoresSequencer i := by
  cases i
  case pfxFatalDdDdDd | pfxFatalDdDdFd | pfxFatalDdDdEd | pfxFatalDdDdCb | pfxFatalDdFdDd
      | pfxFatalDdFdFd | pfxFatalDdFdEd | pfxFatalDdFdCb | pfxFatalDdEdDd | pfxFatalDdEdFd
      | pfxFatalDdEdEd | pfxFatalDdEdCb | pfxFatalDdCbDd | pfxFatalDdCbFd | pfxFatalDdCbEd
      | pfxFatalDdCbCb | pfxFatalFdDdDd | pfxFatalFdDdFd | pfxFatalFdDdEd | pfxFatalFdDdCb
      | pfxFatalFdFdDd | pfxFatalFdFdFd | pfxFatalFdFdEd | pfxFatalFdFdCb | pfxFatalFdEdDd
      | pfxFatalFdEdFd | pfxFatalFdEdEd | pfxFatalFdEdCb | pfxFatalFdCbDd | pfxFatalFdCbFd
      | pfxFatalFdCbEd | pfxFatalFdCbCb | pfxFatalEdDdDd | pfxFatalEdDdFd | pfxFatalEdDdEd
      | pfxFatalEdDdCb | pfxFatalEdFdDd | pfxFatalEdFdFd | pfxFatalEdFdEd | pfxFatalEdFdCb
      | pfxFatalEdEdDd | pfxFatalEdEdFd | pfxFatalEdEdEd | pfxFatalEdEdCb | pfxFatalEdCbDd
      | pfxFatalEdCbFd | pfxFatalEdCbEd | pfxFatalEdCbCb | pfxFatalCbDdDd | pfxFatalCbDdFd
      | pfxFatalCbDdEd | pfxFatalCbDdCb | pfxFatalCbFdDd | pfxFatalCbFdFd | pfxFatalCbFdEd
      | pfxFatalCbFdCb | pfxFatalCbEdDd | pfxFatalCbEdFd | pfxFatalCbEdEd | pfxFatalCbEdCb
      | pfxFatalCbCbDd | pfxFatalCbCbFd | pfxFatalCbCbEd | pfxFatalCbCbCb =>
    exact .inl ⟨_, _, _, by decide, by decide, by decide, rfl, rfl, fun _ => rfl⟩
  case callNn | rst00 | rst08 | rst10 | rst18 | rst20 | rst28 | rst30 | rst38 =>
    exact .inr (ignoresSequencer_of_call fun _ => rfl)
  case retn => exact .inr ignoresSequencer_retn
  all_goals exact .inr fun _ => ⟨_, rfl, ⟨rfl, rfl, rfl, rfl, rfl⟩, fun _ _ _ _ _ => rfl⟩

/-- Settles O33: an instruction either ignores the sequencer's items or is three prefix bytes, and with
another map it stores the same bytes, where that map lets it. -/
theorem everyInstructionCompletes : Obligations.EveryInstructionCompletes := by
  intro i s
  obtain ⟨b0, b1, b2, h0, h1, h2, hencode, -, hraise⟩ | hignores := isFatal_or_ignoresSequencer i
  · exact ⟨_, hraise s, rfl, rfl, rfl, .inr ⟨b0, b1, b2, h0, h1, h2, hencode, rfl⟩,
      fun writable => exists_execWith_storesThrough writable (hraise s)⟩
  · obtain ⟨t, ht, ⟨hintp, hnmip, htcyc, hfatal, hinfo⟩, hcommutes⟩ := hignores s
    exact ⟨t, ht, hintp, hnmip, htcyc, .inl ⟨hfatal, hinfo, hcommutes⟩,
      fun writable => exists_execWith_storesThrough writable ht⟩

/-! ### The invariant -/

theorem inv_iff {s : State} :
    s.inv = true ↔
      s.mem.wf = true ∧ s.fatal = s.fatalInfo.isSome ∧ (s.iff1 = true → s.iff2 = true) := by
  rw [State.inv, State.mirror, Bool.and_eq_true, Bool.and_eq_true, beq_iff_eq, and_assoc]
  cases s.iff1 <;> cases s.iff2 <;> simp

/-- FATAL and its record still agree after an instruction: both are kept, or both are set (R260). -/
theorem exec_fatal_agrees {i : Instr} {s t : State} (hexec : exec i s = .next t)
    (h : s.fatal = s.fatalInfo.isSome) : t.fatal = t.fatalInfo.isSome := by
  obtain ⟨b0, b1, b2, -, -, -, -, -, hraise⟩ | hignores := isFatal_or_ignoresSequencer i
  · cases hexec.symm.trans (hraise s)
    rfl
  · obtain ⟨t', ht', ⟨-, -, -, hfatal, hinfo⟩, -⟩ := hignores s
    cases hexec.symm.trans ht'
    rw [hfatal, hinfo, h]

/-- The flip-flops still mirror after an instruction (R283): kept, equal, or both IFF2 by RETN. -/
theorem exec_mirror {i : Instr} {s t : State} (hexec : exec i s = .next t)
    (h : s.iff1 = true → s.iff2 = true) : t.iff1 = true → t.iff2 = true := by
  by_cases hi : i = .retn
  · subst hi
    cases hexec
    exact id
  · obtain ⟨h1, h2⟩ | heq := exec_flipFlops_equal hexec hi
    · rwa [h1, h2]
    · rw [heq]
      exact id

theorem execWith_inv {writable : Word → Bool} {i : Instr} {s u : State}
    (h : execWith writable i s = .next u) (hinv : s.inv = true) : u.inv = true := by
  obtain ⟨hwf, hfatal, hflipFlops⟩ := inv_iff.mp hinv
  obtain ⟨t, ht, hu, -⟩ := exists_exec_of_execWith h
  have hagree := exec_fatal_agrees ht hfatal
  have hmirror := exec_mirror ht hflipFlops
  rw [hu] at h ⊢
  exact inv_iff.mpr ⟨execWith_mem_wf h hwf, hagree, hmirror⟩

end Sys2Proof.Machine
end

section
/-! PROOFS. The step of the sequencer by the state it is called on, and the machine's step as the run of the
instruction decoded (`41_step_sequencer.md` R146 to R153, `60_exceptions.md` R269 to R276). -/

namespace Sys2Proof.Machine

/-! ### The sequencer -/

theorem fetches_iff {s : State} :
    s.fetches = true ↔
      s.fatal = false ∧ s.nmip = false ∧ (s.intp && s.iff1) = false ∧ s.halt = false := by
  simp only [State.fetches, Bool.and_eq_true, Bool.not_eq_true', and_assoc]

section Priorities

variable (p : Params) (table : Table) {s : State}

theorem stepWith_of_fatal (hfatal : s.fatal = true) : stepWith p table s = .fault .sessionOver := by
  simp only [stepWith, hfatal, if_true]

theorem stepWith_of_nmi (hfatal : s.fatal = false) (hnmip : s.nmip = true) :
    stepWith p table s = report p.nmiAckCycles (takeNmi p { s with nmip := false }) := by
  simp only [stepWith, hfatal, hnmip, Bool.false_eq_true, if_true, if_false]

theorem stepWith_of_idle (hfatal : s.fatal = false) (hnmip : s.nmip = false)
    (hint : (s.intp && s.iff1) = false) (hhalt : s.halt = true) :
    stepWith p table s = report p.haltIdleCycles { s with intp := false } := by
  simp only [stepWith, hfatal, hnmip, hint, hhalt, Bool.false_eq_true, if_true, if_false]

theorem stepWith_of_fetches (hfetches : s.fetches = true) :
    stepWith p table s = ordinaryStep table s { s with intp := false } := by
  obtain ⟨hfatal, hnmip, hint, hhalt⟩ := fetches_iff.mp hfetches
  simp only [stepWith, hfatal, hnmip, hint, hhalt, Bool.false_eq_true, if_false]

theorem ordinaryStep_of_ok {s0 : State} {sel len : Nat}
    (hdecode : decodeSelector (pcSource s) = .ok sel len) :
    ordinaryStep table s0 s =
      runDescriptor (table sel) (operandBytes (pcSource s) len (table sel).n) 0
        (advance (len + (table sel).n) s) := by
  simp only [ordinaryStep, hdecode]

theorem ordinaryStep_of_fatal {s0 : State} {b0 b1 b2 : Byte}
    (hdecode : decodeSelector (pcSource s) = .fatal b0 b1 b2) :
    ordinaryStep table s0 s = reportFatal s0.pc b0 b1 b2 s0 := by
  simp only [ordinaryStep, hdecode]

theorem acceptInt0_of_ok {s0 : State} {sel len : Nat} (hdecode : decodeSelector p.intDevice = .ok sel len) :
    acceptInt0 p table s0 s =
      runDescriptor (table sel) (operandBytes p.intDevice len (table sel).n) p.im0AckExtra
        (clearForInt s) := by
  simp only [acceptInt0, hdecode]

theorem acceptInt0_of_fatal {s0 : State} {b0 b1 b2 : Byte}
    (hdecode : decodeSelector p.intDevice = .fatal b0 b1 b2) :
    acceptInt0 p table s0 s = reportFatal 0 b0 b1 b2 s0 := by
  simp only [acceptInt0, hdecode]

theorem acceptInt_mode0 (s0 : State) (him : s.im = .mode0) :
    acceptInt p table s0 s = acceptInt0 p table s0 s := by
  simp only [acceptInt, him]

theorem acceptInt_mode2 (s0 : State) (him : s.im = .mode2) :
    acceptInt p table s0 s = report p.im2AckCycles (takeInt2 p s) := by
  simp only [acceptInt, him]

end Priorities

/-! ### The instruction decoded and the descriptor run -/

@[simp] theorem execWith_unmappedInstr (writable : Word → Bool) (pat : Pattern) (op : Byte) (s : State) :
    execWith writable (unmappedInstr pat op) s = .next s := by
  obtain _ | p | ⟨p, q⟩ := pat
  · rfl
  · cases p <;> rfl
  · cases p <;> cases q <;> rfl

/-- What the machine's table holds for the instruction decoded: the length and the operand count that the
decoder gives, and its transition function. -/
theorem machineTable_of_decodeSelector {src : Nat → Byte} {sel len : Nat}
    (hdecode : decodeSelector src = .ok sel len) (p : Params) :
    (decode src).len = len ∧ (decode src).n = (machineTable p sel).n ∧
      ∀ s t, execWith p.writable (decode src).instr s = .next t →
        runExec (machineTable p sel) (operandBytes src len (machineTable p sel).n) s = t := by
  obtain ⟨pat, op, hscan, rfl, rfl⟩ := exists_scan_of_decodeSelector_ok hdecode
  cases hrow : findRow machineRows (pat.selector op) with
  | some row =>
    have hn : (machineTable p (pat.selector op)).n = row.n := by
      rw [machineTable, tableOf_some hrow]
      rfl
    rw [decode_of_scan_mapped hscan hrow, hn]
    exact ⟨rfl, rfl, fun _ _ ht => runExec_machineTable hrow ht⟩
  | none =>
    rw [decode_of_scan_unmapped hscan hrow, machineTable, tableOf_none hrow]
    refine ⟨rfl, rfl, fun s t ht => ?_⟩
    rw [execWith_unmappedInstr] at ht
    cases ht
    rfl

/-! ### The machine's step -/

/-- The ways a step of the machine's own table goes from `s` to another state, for the parameters (R269). -/
inductive MachineStep (p : Params) (s : State) : State → Prop
  /-- an NMI is accepted (R272) -/
  | nmi : s.nmip = true →
      MachineStep p s { takeNmi p { s with nmip := false } with tcyc := s.tcyc + p.nmiAckCycles }
  /-- an INT is accepted in mode 1 (R275) -/
  | int1 : s.nmip = false → s.intp = true → s.iff1 = true → s.im = .mode1 →
      MachineStep p s { takeInt1 p { s with intp := false } with tcyc := s.tcyc + p.im1AckCycles }
  /-- an INT is accepted in mode 2 (R276) -/
  | int2 : s.nmip = false → s.intp = true → s.iff1 = true → s.im = .mode2 →
      MachineStep p s { takeInt2 p { s with intp := false } with tcyc := s.tcyc + p.im2AckCycles }
  /-- an INT is accepted in mode 0 and the device's instruction runs (R274) -/
  | int0 {sel len : Nat} {u : State} (cycles : Nat) :
      s.nmip = false → s.intp = true → s.iff1 = true → s.im = .mode0 →
      decodeSelector p.intDevice = .ok sel len →
      execWith p.writable (decode p.intDevice).instr (clearForInt { s with intp := false }) = .next u →
      MachineStep p s { u with tcyc := s.tcyc + cycles }
  /-- an INT is met in mode 0 and the device supplies three prefix bytes (R260) -/
  | int0Fatal {b0 b1 b2 : Byte} :
      s.nmip = false → s.intp = true → s.iff1 = true → s.im = .mode0 →
      decodeSelector p.intDevice = .fatal b0 b1 b2 → MachineStep p s (raiseFatal 0 b0 b1 b2 s)
  /-- the halted core idles (R278) -/
  | idle : s.nmip = false → (s.intp && s.iff1) = false → s.halt = true →
      MachineStep p s { s with intp := false, tcyc := s.tcyc + p.haltIdleCycles }
  /-- the instruction at PC runs (R150) -/
  | fetched {sel len : Nat} {u : State} (cycles : Nat) : s.fetches = true →
      decodeSelector (pcSource s) = .ok sel len →
      execWith p.writable (decode (pcSource s)).instr
        (advance (len + (machineTable p sel).n) { s with intp := false }) = .next u →
      MachineStep p s { u with tcyc := s.tcyc + cycles }
  /-- three prefix bytes are at PC (R260) -/
  | fetchedFatal {b0 b1 b2 : Byte} : s.fetches = true →
      decodeSelector (pcSource s) = .fatal b0 b1 b2 → MachineStep p s (raiseFatal s.pc b0 b1 b2 s)

/-- Running the descriptor of the instruction decoded is running the instruction, with a count added. -/
theorem runDescriptor_machineTable {p : Params} {src : Nat → Byte} {sel len : Nat} (extra : Nat) (s : State)
    (hdecode : decodeSelector src = .ok sel len) :
    ∃ u cycles, execWith p.writable (decode src).instr s = .next u ∧
      runDescriptor (machineTable p sel) (operandBytes src len (machineTable p sel).n) extra s =
        .next ⟨some cycles, { u with tcyc := s.tcyc + cycles }⟩ := by
  obtain ⟨-, -, hrun⟩ := machineTable_of_decodeSelector hdecode p
  obtain ⟨u, hu⟩ := execWith_next p.writable (decode src).instr s
  have h := runDescriptor_eq (machineTable p sel) (operandBytes src len (machineTable p sel).n) extra s
  rw [hrun s u hu] at h
  exact ⟨u, _, hu, h⟩

theorem stateOnly_eq_next {out : Host.Outcome Returned Fault Refusal} {t : State} :
    stateOnly out = .next t ↔ ∃ c, out = .next ⟨c, t⟩ := by
  constructor
  · intro h
    cases out with
    | next r => cases h; exact ⟨r.cycles, rfl⟩
    | fault | refused => cases h
  · rintro ⟨c, rfl⟩
    rfl

/-- Every step of the machine's table is one of these. -/
theorem machineStep_of_stepOf {p : Params} {s t : State} (h : stepOf p s = .next t) :
    MachineStep p s t := by
  obtain ⟨c, h⟩ := stateOnly_eq_next.mp h
  obtain ⟨-, e⟩ | ⟨-, hnmip, e⟩ | ⟨-, hnmip, hintp, hiff1, e⟩ | ⟨-, hnmip, hint, hhalt, e⟩ |
    ⟨hfatal, hnmip, hint, hhalt, e⟩ := stepWith_cases p (machineTable p) s
  all_goals replace h := e.symm.trans h
  · cases h
  · cases h; exact .nmi hnmip
  · cases him : s.im with
    | mode0 =>
      rw [acceptInt_mode0 p (machineTable p) (s := { s with intp := false }) s him] at h
      cases hdecode : decodeSelector p.intDevice with
      | ok sel len =>
        obtain ⟨u, cycles, hu, hrun⟩ :=
          runDescriptor_machineTable p.im0AckExtra (clearForInt { s with intp := false }) hdecode
        rw [acceptInt0_of_ok p _ hdecode, hrun] at h
        cases h
        exact .int0 cycles hnmip hintp hiff1 him hdecode hu
      | fatal b0 b1 b2 =>
        rw [acceptInt0_of_fatal p _ hdecode] at h
        cases h
        exact .int0Fatal hnmip hintp hiff1 him hdecode
    | mode1 =>
      rw [acceptInt_mode1 p (machineTable p) (s := { s with intp := false }) s him] at h
      cases h
      exact .int1 hnmip hintp hiff1 him
    | mode2 =>
      rw [acceptInt_mode2 p (machineTable p) (s := { s with intp := false }) s him] at h
      cases h
      exact .int2 hnmip hintp hiff1 him
  · cases h; exact .idle hnmip hint hhalt
  · have hfetches := fetches_iff.mpr ⟨hfatal, hnmip, hint, hhalt⟩
    cases hdecode : decodeSelector (pcSource s) with
    | ok sel len =>
      obtain ⟨u, cycles, hu, hrun⟩ := runDescriptor_machineTable (p := p) 0
        (advance (len + (machineTable p sel).n) { s with intp := false }) hdecode
      rw [ordinaryStep_of_ok (s := { s with intp := false }) _ hdecode] at h
      cases hrun.symm.trans h
      exact .fetched cycles hfetches hdecode hu
    | fatal b0 b1 b2 =>
      rw [ordinaryStep_of_fatal (s := { s with intp := false }) _ hdecode] at h
      cases h
      exact .fetchedFatal hfetches hdecode

/-! ### The invariant over a step -/

/-- The invariant does not see TCYC. -/
theorem inv_setTcyc (n : Nat) (s : State) : { s with tcyc := n }.inv = s.inv := rfl

theorem push16With_inv (writable : Word → Bool) (v : Word) {s : State} (hinv : s.inv = true) :
    (push16With writable v s).inv = true := by
  obtain ⟨hwf, hagree, hmirror⟩ := inv_iff.mp hinv
  exact inv_iff.mpr ⟨push16With_wf writable v hwf, hagree, hmirror⟩

/-- Entering a handler is a push and a transfer. -/
theorem enterHandler_inv (writable : Word → Bool) (target : Word) {s : State} (hinv : s.inv = true) :
    (enterHandler writable target s).inv = true := push16With_inv writable s.pc hinv

theorem raiseFatal_inv (start : Word) (b0 b1 b2 : Byte) {s : State} (hinv : s.inv = true) :
    (raiseFatal start b0 b1 b2 s).inv = true := by
  obtain ⟨hwf, -, hmirror⟩ := inv_iff.mp hinv
  exact inv_iff.mpr ⟨hwf, rfl, hmirror⟩

theorem clearForNmi_inv {s : State} (hinv : s.inv = true) : (clearForNmi s).inv = true := by
  obtain ⟨hwf, hagree, -⟩ := inv_iff.mp hinv
  exact inv_iff.mpr ⟨hwf, hagree, nofun⟩

theorem clearForInt_inv {s : State} (hinv : s.inv = true) : (clearForInt s).inv = true := by
  obtain ⟨hwf, hagree, -⟩ := inv_iff.mp hinv
  exact inv_iff.mpr ⟨hwf, hagree, nofun⟩

theorem takeInt2_inv (p : Params) {s : State} (hinv : s.inv = true) : (takeInt2 p s).inv = true :=
  push16With_inv p.writable s.pc (clearForInt_inv hinv)

theorem machineStep_inv {p : Params} {s t : State} (h : MachineStep p s t) (hinv : s.inv = true) :
    t.inv = true := by
  cases h with
  | nmi _ => exact (inv_setTcyc _ _).trans (enterHandler_inv _ _ (clearForNmi_inv hinv))
  | int1 _ _ _ _ => exact (inv_setTcyc _ _).trans (enterHandler_inv _ _ (clearForInt_inv hinv))
  | int2 _ _ _ _ => exact (inv_setTcyc _ _).trans (takeInt2_inv p hinv)
  | int0 _ _ _ _ _ _ hexec =>
    exact (inv_setTcyc _ _).trans (execWith_inv hexec (clearForInt_inv hinv))
  | fetched _ _ _ hexec => exact (inv_setTcyc _ _).trans (execWith_inv hexec hinv)
  | idle _ _ _ => exact hinv
  | int0Fatal _ _ _ _ _ | fetchedFatal _ _ => exact raiseFatal_inv _ _ _ _ hinv

/-- Settles O34: an instruction keeps the invariant (`execWith_inv`), and so does everything else a step can
do. -/
theorem everyStepKeepsTheInvariant : Obligations.EveryStepKeepsTheInvariant :=
  ⟨fun _ _ hinv h => machineStep_inv (machineStep_of_stepOf h) hinv,
    fun _ _ _ hinv h => machineStep_inv (machineStep_of_stepOf h) hinv⟩

end Sys2Proof.Machine
end

section
/-! PROOFS. The band of each prefix pattern, and so what the selector tells of the bytes (`30_encoding.md` R84,
R85; `40_decoder.md` R107, R109, R111, R118 to R129, R134, R135). -/

namespace Sys2Proof.Machine

/-! ### Bands -/

/-- The band of a pattern: the part of the selector formula (R107) that the prefixes give. -/
def patternBand (pat : Pattern) : Nat :=
  (if rank (padded (collide pat)).1 > 0 then rank (padded (collide pat)).1 + 4 else 0) +
    rank (padded (collide pat)).2

theorem selector_eq_band (pat : Pattern) (op : Byte) :
    pat.selector op = patternBand pat * 256 + op.toNat := by
  rw [Pattern.selector, selectorOf, ← Nat.add_mul, patternBand]

theorem selector_div_256 (pat : Pattern) (op : Byte) : pat.selector op / 256 = patternBand pat := by
  have := op.isLt
  rw [selector_eq_band]
  omega

theorem ofNat_selector (pat : Pattern) (op : Byte) : BitVec.ofNat 8 (pat.selector op) = op := by
  apply BitVec.eq_of_toNat_eq
  rw [BitVec.toNat_ofNat]
  exact selector_mod_256 pat op

/-- Two prefixes whose second is not ED: the band is above those of one prefix. -/
theorem patternBand_two (p : Prefix) {q : Prefix} (hq : q ≠ .ed) :
    patternBand (.two p q) = rank p.byte + 4 + rank q.byte := by
  revert hq
  cases p <;> cases q <;> decide

/-- The bands in use (R84): 0 to 4 and 6 to 12. -/
theorem patternBand_range (pat : Pattern) : patternBand pat ≤ 12 ∧ patternBand pat ≠ 5 := by
  obtain _ | p | ⟨p, q⟩ := pat
  · decide
  · cases p <;> decide
  · cases p <;> cases q <;> decide

/-- Outside the collision the band gives the length (R109). -/
theorem len_eq_of_band {pat : Pattern} (h : ∀ p, pat ≠ .two p .ed) :
    pat.len = if 5 ≤ patternBand pat then 3 else if 1 ≤ patternBand pat then 2 else 1 := by
  obtain _ | p | ⟨p, q⟩ := pat
  · decide
  · cases p <;> decide
  · have hq : q ≠ .ed := fun e => h p (e ▸ rfl)
    have h5 : 5 ≤ patternBand (.two p q) := by
      rw [patternBand_two p hq]
      cases p <;> cases q <;> decide
    rw [if_pos h5, Pattern.len]

/-! ### The decoder by its patterns -/

theorem decodeSelector_two {src : Nat → Byte} {p q : Prefix} (hq : q ≠ .ed) (h0 : src 0 = p.byte)
    (h1 : src 1 = q.byte) (h2 : ¬ IsPrefixByte (src 2)) :
    decodeSelector src = .ok ((rank p.byte + 4 + rank q.byte) * 256 + (src 2).toNat) 3 := by
  rw [decodeSelector_of_scan (scan_two h0 h1 h2), selector_eq_band, patternBand_two p hq, Pattern.len]

theorem decodeSelector_fatal {src : Nat → Byte} {p q r : Prefix} (h0 : src 0 = p.byte)
    (h1 : src 1 = q.byte) (h2 : src 2 = r.byte) :
    decodeSelector src = .fatal p.byte q.byte r.byte := by
  simp only [decodeSelector, scan_fatal h0 h1 h2]

theorem byte_eq_ed_iff {q : Prefix} : q.byte = 0xED ↔ q = .ed := by
  cases q <;> decide

/-- Settles O9: the four cases are those of the scan, and the third splits on the second prefix. -/
theorem decoderIsThePseudocode : Obligations.DecoderIsThePseudocode := by
  intro src
  refine ⟨decodeSelector_bare, fun h0 h1 => ?one, fun h0 h1 h2 => ?two, fun h0 h1 h2 => ?fatal,
    rfl, rfl, rfl, rfl, fun b hb => rank_eq_zero.mpr (not_isPrefixByte_iff.mp hb)⟩
  case one =>
    obtain ⟨p, hp⟩ := isPrefixByte_iff.mp h0
    rw [hp]
    exact decodeSelector_one p hp h1
  case two =>
    obtain ⟨p, hp⟩ := isPrefixByte_iff.mp h0
    obtain ⟨q, hq⟩ := isPrefixByte_iff.mp h1
    split
    · next hed => exact decodeSelector_collision h0 hed h2
    · next hed =>
      rw [hq, byte_eq_ed_iff] at hed
      rw [hp, hq]
      exact decodeSelector_two hed hp hq h2
  case fatal =>
    obtain ⟨p, hp⟩ := isPrefixByte_iff.mp h0
    obtain ⟨q, hq⟩ := isPrefixByte_iff.mp h1
    obtain ⟨r, hr⟩ := isPrefixByte_iff.mp h2
    rw [hp, hq, hr]
    exact decodeSelector_fatal hp hq hr

/-- Settles O11: one law for every pair of prefixes, and the arithmetic of each band. -/
theorem twoPrefixPatterns : Obligations.TwoPrefixPatterns := by
  intro src h2
  have law (p : Prefix) {q : Prefix} (hq : q ≠ .ed) (h0 : src 0 = p.byte) (h1 : src 1 = q.byte) :=
    decodeSelector_two hq h0 h1 h2
  exact ⟨law .dd (q := .dd) nofun, law .dd (q := .fd) nofun, law .dd (q := .cb) nofun,
    law .fd (q := .dd) nofun, law .fd (q := .fd) nofun, law .fd (q := .cb) nofun,
    law .ed (q := .dd) nofun, law .ed (q := .fd) nofun, law .ed (q := .cb) nofun,
    law .cb (q := .dd) nofun, law .cb (q := .fd) nofun, law .cb (q := .cb) nofun⟩

/-- The decoder raises `FatalDecode` on three prefix bytes, and on nothing else (R134). -/
theorem decodeSelector_eq_fatal_iff {src : Nat → Byte} {b0 b1 b2 : Byte} :
    decodeSelector src = .fatal b0 b1 b2 ↔
      IsPrefixByte b0 ∧ IsPrefixByte b1 ∧ IsPrefixByte b2 ∧ src 0 = b0 ∧ src 1 = b1 ∧ src 2 = b2 := by
  constructor
  · intro h
    obtain ⟨-, e⟩ | ⟨_, -, -, e⟩ | ⟨_, _, -, -, -, e⟩ | ⟨p, q, r, h0, h1, h2, e⟩ := scan_cases src
    case inr.inr.inr =>
      cases (decodeSelector_fatal h0 h1 h2).symm.trans h
      exact ⟨isPrefixByte_iff.mpr ⟨p, rfl⟩, isPrefixByte_iff.mpr ⟨q, rfl⟩,
        isPrefixByte_iff.mpr ⟨r, rfl⟩, h0, h1, h2⟩
    all_goals cases (decodeSelector_of_scan e).symm.trans h
  · rintro ⟨h0, h1, h2, rfl, rfl, rfl⟩
    obtain ⟨-, -, -, hfatal, -⟩ := decoderIsThePseudocode src
    exact hfatal h0 h1 h2

/-- An ordinary step on three prefix bytes (R260): FATAL and the record, no count. -/
theorem stepWith_fetches_fatal (p : Params) (table : Table) {s : State} {b0 b1 b2 : Byte}
    (hfetches : s.fetches = true) (hdecode : decodeSelector (pcSource s) = .fatal b0 b1 b2) :
    stepWith p table s = .next ⟨none, raiseFatal s.pc b0 b1 b2 s⟩ := by
  rw [stepWith_of_fetches p table hfetches,
    ordinaryStep_of_fatal (s := { s with intp := false }) table hdecode]
  rfl

theorem pcSource_zero (s : State) : pcSource s 0 = readByte s.pc s :=
  congrArg (readByte · s) (BitVec.add_zero s.pc)

/-- Settles O13: `decodeSelector_eq_fatal_iff`, and the step on the three bytes at PC. -/
theorem threePrefixBytesAreFatal : Obligations.ThreePrefixBytesAreFatal := by
  refine ⟨fun _ _ _ _ => decodeSelector_eq_fatal_iff, fun p table s hfetches h0 h1 h2 => ?_⟩
  have hdecode : decodeSelector (pcSource s) = .fatal (pcSource s 0) (pcSource s 1) (pcSource s 2) :=
    decodeSelector_eq_fatal_iff.mpr ⟨pcSource_zero s ▸ h0, h1, h2, rfl, rfl, rfl⟩
  exact ⟨_, stepWith_fetches_fatal p table hfetches hdecode, rfl, rfl⟩

/-- Settles O14: both end in `reportFatal`, on the state as it was. -/
theorem fatalDecodeChangesNothingElse : Obligations.FatalDecodeChangesNothingElse := by
  refine fun p table s b0 b1 b2 => ⟨fun hfetches hdecode => ?fetched,
    fun hfatal hnmip hintp hiff1 him hdecode => ?device⟩
  case fetched => exact stepWith_fetches_fatal p table hfetches hdecode
  case device =>
    rw [stepWith_of_int hfatal hnmip hintp hiff1,
      acceptInt_mode0 p table (s := { s with intp := false }) s him, acceptInt0_of_fatal p table hdecode]
    rfl

/-! ### What the selector tells -/

/-- Two prefixes with ED in second place are what the scan finds exactly when those are the first bytes. -/
theorem collision_iff_of_scan {src : Nat → Byte} {pat : Pattern} {op : Byte}
    (hscan : scan src = .opcode pat op) :
    (IsPrefixByte (src 0) ∧ src 1 = 0xED) ↔ ∃ p, pat = .two p .ed := by
  obtain ⟨h0, e⟩ | ⟨p, -, h1, e⟩ | ⟨p, q, h0, h1, -, e⟩ | ⟨_, _, _, -, -, -, e⟩ := scan_cases src
  all_goals cases e.symm.trans hscan
  · exact ⟨fun h => absurd h.1 (not_isPrefixByte_iff.mpr h0), nofun⟩
  · refine ⟨fun h => absurd h.2 fun hed => ?_, nofun⟩
    rw [hed] at h1
    cases h1
  · rw [h1, byte_eq_ed_iff]
    exact ⟨fun h => ⟨p, h.2 ▸ rfl⟩, fun ⟨_, h⟩ => by cases h; exact ⟨isPrefixByte_iff.mpr ⟨p, h0⟩, rfl⟩⟩

/-- Settles O15: the selector is 256 times the band plus the final byte. -/
theorem selectorGivesTheLength : Obligations.SelectorGivesTheLength := by
  intro src sel len h
  obtain ⟨pat, op, hscan, rfl, rfl⟩ := exists_scan_of_decodeSelector_ok h
  have hop := op.isLt
  have hsel := selector_eq_band pat op
  obtain ⟨hmax, hgap⟩ := patternBand_range pat
  refine ⟨by omega, by omega, ?low, ?length⟩
  case low =>
    rw [ofNat_selector]
    exact not_isPrefixByte_of_scan hscan
  case length =>
    rw [← and_assoc, collision_iff_of_scan hscan]
    by_cases hcollision : ∃ p, pat = .two p .ed
    · left
      obtain ⟨p, rfl⟩ := hcollision
      have hband : patternBand (.two p .ed) = 3 := rfl
      exact ⟨⟨p, rfl⟩, rfl, by omega, by omega⟩
    · right
      refine ⟨hcollision, ?_⟩
      rw [len_eq_of_band fun p e => hcollision ⟨p, e⟩]
      split_ifs <;> omega

/-- The bands of the seven regular patterns differ (R84, R135). -/
theorem patternBand_injective_on_regular :
    ∀ pat ∈ [Pattern.bare, .one .dd, .one .fd, .one .ed, .one .cb, .two .dd .cb, .two .fd .cb],
    ∀ pat' ∈ [Pattern.bare, .one .dd, .one .fd, .one .ed, .one .cb, .two .dd .cb, .two .fd .cb],
      patternBand pat = patternBand pat' → pat = pat' := by
  decide

/-- Settles O16: the quotient of the selector by 256 is the band, and its low byte the final byte. -/
theorem regularPatternsAreInjective : Obligations.RegularPatternsAreInjective := by
  intro pat hpat pat' hpat' o o' h
  refine ⟨patternBand_injective_on_regular pat hpat pat' hpat' ?_, ?_⟩
  · rw [← selector_div_256 pat o, h, selector_div_256]
  · rw [← ofNat_selector pat o, h, ofNat_selector]

/-- Settles O60: the bytes, the decoded error and the effect of each constructor are computed. -/
theorem threePrefixInstructionsRaiseFatalDecode :
    Obligations.ThreePrefixInstructionsRaiseFatalDecode := by
  unfold Obligations.ThreePrefixInstructionsRaiseFatalDecode
  and_intros <;> intros <;> rfl

end Sys2Proof.Machine
end

section
/-! PROOFS. Encode of decode, and that what is decoded is well formed (`30_encoding.md`, `40_decoder.md`). -/

namespace Sys2Proof.Machine

/-! ### The rows of the table -/

/-- The pattern of a band in which the table maps a selector. -/
def mappedPattern : Nat → Pattern
  | 0 => .bare
  | 1 => .one .dd
  | 2 => .one .fd
  | 3 => .one .ed
  | 4 => .one .cb
  | _ => .two .cb .cb

theorem mappedSelectors_bands : ∀ sel ∈ mappedSelectors, sel / 256 ∈ [0, 1, 2, 3, 4, 12] := by
  decide

/-- A mapped band is that of one pattern, a collision taken as the pattern ED it is read as. -/
theorem mappedPattern_patternBand {pat : Pattern} (h : patternBand pat ∈ [0, 1, 2, 3, 4, 12]) :
    mappedPattern (patternBand pat) = collide pat := by
  revert h
  obtain _ | p | ⟨p, q⟩ := pat
  · decide
  · cases p <;> decide
  · cases p <;> cases q <;> decide

/-- The bytes an instruction of `n` operand bytes puts after its opcode (R87). -/
def encodedOperand (n : Nat) (ops : List Byte) : List Byte :=
  match n with
  | 0 => []
  | 1 => [imm8 ops]
  | _ => wordBytes (imm16 ops)

theorem encodedOperand_eq {n : Nat} {ops : List Byte} (hops : ops.length = n) (hn : n ≤ 2) :
    encodedOperand n ops = ops := by
  match ops, hops with
  | [], rfl => rfl
  | [_], rfl => rfl
  | [lo, hi], rfl => exact wordBytes_joinBytes hi lo
  | _ :: _ :: _ :: _, rfl => exact absurd hn (by simp)

/-- A row's instruction is well formed whatever the operand bytes, and its encoding is the bytes of the row's
selector and the operand. -/
def RowEncodes (row : Row) : Prop :=
  ∀ ops, (row.make ops).wellFormed = true ∧
    encode (row.make ops) =
      patternBytes (mappedPattern (row.sel / 256)) ++
        BitVec.ofNat 8 row.sel :: encodedOperand row.n ops

theorem machineRows_encode : ∀ row ∈ machineRows, RowEncodes row := by
  simp only [machineRows, trefRows, trefRows0, trefRows33, trefRows71, trefRows199, trefRows233,
    trefRows382, syntheticRows, List.forall_mem_append, List.forall_mem_cons,
    List.not_mem_nil, IsEmpty.forall_iff, implies_true, and_true]
  and_intros <;> exact fun _ => ⟨rfl, rfl⟩

theorem machineRows_n_le {row : Row} (h : row ∈ machineRows) : row.n ≤ 2 := by
  have hall : (machineRows.all fun row => decide (row.n ≤ 2)) = true := by decide
  exact of_decide_eq_true (List.all_eq_true.mp hall row h)

/-- The bytes of the instruction of the row found at a scanned pattern's selector. -/
theorem encode_of_mapped {pat : Pattern} {op : Byte} {row : Row} {ops : List Byte}
    (hrow : findRow machineRows (pat.selector op) = some row) (hops : ops.length = row.n) :
    encode (row.make ops) = patternBytes (collide pat) ++ op :: ops := by
  obtain ⟨hmem, hsel⟩ := findRow_some hrow
  have hmapped : pat.selector op ∈ mappedSelectors := by
    rw [← machineRows_selectors, ← hsel]
    exact List.mem_map_of_mem hmem
  have hband := mappedSelectors_bands _ hmapped
  rw [selector_div_256] at hband
  rw [(machineRows_encode row hmem ops).2, hsel, selector_div_256, mappedPattern_patternBand hband,
    ofNat_selector, encodedOperand_eq hops (machineRows_n_le hmem)]

theorem contains_of_findRow_some {sel : Nat} {row : Row} (hrow : findRow machineRows sel = some row) :
    mappedSelectors.contains sel = true := by
  by_contra h
  rw [Bool.not_eq_true, ← findRow_machineRows_none, hrow] at h
  cases h

theorem collide_eq_self {pat : Pattern} (h : ∀ p, pat ≠ .two p .ed) : collide pat = pat := by
  obtain _ | p | ⟨p, q⟩ := pat
  · rfl
  · rfl
  · cases q
    case ed => exact absurd rfl (h p)
    all_goals rfl

/-! ### Sources that start with some bytes -/

theorem startsWith_cons {src : Nat → Byte} {b : Byte} {bytes : List Byte} :
    StartsWith src (b :: bytes) ↔ src 0 = b ∧ StartsWith (fun i => src (i + 1)) bytes := by
  constructor
  · exact fun h => ⟨h 0 (Nat.succ_pos _), fun k hk => h (k + 1) (Nat.succ_lt_succ hk)⟩
  · rintro ⟨h0, h⟩ (_ | k) hk
    · exact h0
    · exact h k (Nat.lt_of_succ_lt_succ hk)

theorem startsWith_operandBytes (src : Nat → Byte) (len n : Nat) :
    StartsWith (fun i => src (i + len)) (operandBytes src len n) := by
  intro k hk
  have hk' : k < n := by rwa [operandBytes_length] at hk
  simp [operandBytes, List.getElem?_range hk', Nat.add_comm]

/-- A source starts with the prefixes and the final byte it scans to, and its operand bytes after them. -/
theorem startsWith_of_scan {src : Nat → Byte} {pat : Pattern} {op : Byte}
    (hscan : scan src = .opcode pat op) (n : Nat) :
    StartsWith src (patternBytes pat ++ op :: operandBytes src pat.len n) := by
  have hops := startsWith_operandBytes src pat.len n
  obtain ⟨-, e⟩ | ⟨p, h0, -, e⟩ | ⟨p, q, h0, h1, -, e⟩ | ⟨_, _, _, -, -, -, e⟩ := scan_cases src
  all_goals cases e.symm.trans hscan
  · exact startsWith_cons.mpr ⟨rfl, hops⟩
  · change StartsWith src (p.byte :: src 1 :: _)
    exact startsWith_cons.mpr ⟨h0, startsWith_cons.mpr ⟨rfl, hops⟩⟩
  · change StartsWith src (p.byte :: q.byte :: src 2 :: _)
    exact startsWith_cons.mpr ⟨h0, startsWith_cons.mpr ⟨h1, startsWith_cons.mpr ⟨rfl, hops⟩⟩⟩

@[simp] theorem encode_fatalInstr (p q r : Prefix) : encode (fatalInstr p q r) = [p.byte, q.byte, r.byte] := by
  cases p <;> cases q <;> cases r <;> rfl

@[simp] theorem wellFormed_fatalInstr (p q r : Prefix) : (fatalInstr p q r).wellFormed = true := by
  cases p <;> cases q <;> cases r <;> rfl

theorem startsWith_of_scan_fatal {src : Nat → Byte} {p q r : Prefix} (hscan : scan src = .fatal p q r) :
    StartsWith src [p.byte, q.byte, r.byte] := by
  obtain ⟨-, e⟩ | ⟨_, -, -, e⟩ | ⟨_, _, -, -, -, e⟩ | ⟨_, _, _, h0, h1, h2, e⟩ := scan_cases src
  all_goals cases e.symm.trans hscan
  simp only [startsWith_cons]
  exact ⟨h0, h1, h2, nofun⟩

/-- Settles O18: a mapped selector's instruction is encoded with the pattern after the collision rule, which
is the pattern scanned but for a collision. -/
theorem encodeOfDecode : Obligations.EncodeOfDecode := by
  intro src
  obtain ⟨p, q, r, hscan, d⟩ | ⟨pat, op, row, hscan, hrow, d⟩ | ⟨pat, op, hscan, hrow, d⟩ :=
    decode_cases src
  · rw [d, encode_fatalInstr]
    exact .inl (startsWith_of_scan_fatal hscan)
  · have hstarts := startsWith_of_scan hscan row.n
    rw [d, encode_of_mapped hrow (operandBytes_length _ _ _)]
    by_cases hcollision : ∃ p, pat = .two p .ed
    · obtain ⟨h0, h1⟩ := (collision_iff_of_scan hscan).mpr hcollision
      obtain ⟨p, rfl⟩ := hcollision
      have h2 : src 2 = op := hstarts 2 (by simp [patternBytes])
      refine .inr ⟨h0, h1, h2 ▸ not_isPrefixByte_of_scan hscan, ?_, (startsWith_cons.mp hstarts).2⟩
      have hsel : (Pattern.two p .ed).selector op = 768 + op.toNat := by
        rw [selector_two_ed, selector_one]
        rfl
      rw [h2, ← hsel]
      exact contains_of_findRow_some hrow
    · rw [collide_eq_self fun p e => hcollision ⟨p, e⟩]
      exact .inl hstarts
  · rw [d, encode_unmappedInstr]
    exact .inl (startsWith_of_scan hscan 0)

/-- Settles O19: a row's instruction is well formed, and so is an unmapped word, because the scan stops at a
final byte. -/
theorem decodedIsWellFormed : Obligations.DecodedIsWellFormed := by
  intro src
  obtain ⟨p, q, r, -, d⟩ | ⟨pat, op, row, -, hrow, d⟩ | ⟨pat, op, hscan, hrow, d⟩ := decode_cases src
  all_goals rw [d]
  · exact wellFormed_fatalInstr p q r
  · exact (machineRows_encode row (findRow_some hrow).1 _).1
  · exact wellFormed_unmappedInstr_iff.mpr ⟨not_isPrefixByte_of_scan hscan, hrow⟩

/-- Settles O20: each word is decoded by computation. -/
theorem specWordsDecode : Obligations.SpecWordsDecode := by
  unfold Obligations.SpecWordsDecode
  and_intros <;> rfl

end Sys2Proof.Machine
end

section
/-! PROOFS. The statements on who writes what, over all instructions (`10_state.md`, `44_reference_table.md`). -/

namespace Sys2Proof.Machine

/-- Settles O37: one frame lemma per register. -/
theorem shadowsAndIndexRegistersKeepTheirWriters :
    Obligations.ShadowsAndIndexRegistersKeepTheirWriters :=
  fun _ _ _ h => ⟨exec_afx h, exec_shadows h, exec_ix h, exec_iy h, exec_ir h⟩

/-- Settles O39: one frame lemma per item, and that DI and EI leave the flip-flops equal. -/
theorem interruptStateKeepsItsWriters : Obligations.InterruptStateKeepsItsWriters :=
  fun _ _ _ h => ⟨exec_flipFlops h, exec_im h, exec_halt h, exec_flipFlops_equal h⟩

/-- Settles O41: one frame lemma per item. -/
theorem memoryStackAndPcKeepTheirWriters : Obligations.MemoryStackAndPcKeepTheirWriters :=
  fun _ _ _ h => ⟨exec_mem h, exec_sp h, exec_pc h⟩

/-- Settles O40: the frame lemma for F; and of the steps in question each but mode 0 runs no instruction. -/
theorem flagsKeepTheirWriters : Obligations.FlagsKeepTheirWriters := by
  refine ⟨fun _ _ _ => exec_f, fun p table s t c h hwhen => ?_⟩
  obtain ⟨-, e⟩ | ⟨-, -, e⟩ | ⟨-, hnmip, hintp, hiff1, e⟩ | ⟨-, -, -, -, e⟩ | ⟨-, hnmip, hint, hhalt, -⟩ :=
    stepWith_cases p table s
  · cases e.symm.trans h
  · cases e.symm.trans h; rfl
  · rw [hnmip, hintp, hiff1] at hwhen
    replace h := e.symm.trans h
    cases him : s.im with
    | mode0 => simp [him] at hwhen
    | mode1 =>
      rw [acceptInt_mode1 p table (s := { s with intp := false }) s him] at h
      cases h; rfl
    | mode2 =>
      rw [acceptInt_mode2 p table (s := { s with intp := false }) s him] at h
      cases h; rfl
  · cases e.symm.trans h; rfl
  · simp [hnmip, hint, hhalt] at hwhen

end Sys2Proof.Machine
end

section
/-! PROOFS. The halves of the register pairs, the representation of memory, the stack primitives
(`10_state.md` R22; log entry 4; `41_step_sequencer.md` R158, R159). -/

namespace Sys2Proof.Machine

/-! ### Halves -/

/-- A write of a half writes its word. -/
theorem write8_eq_writeReg (reg : Reg8) (v : Byte) (s : State) :
    write8 reg v s = writeReg reg.home (readReg reg.home (write8 reg v s)) s := by
  rw [write8, readReg_writeReg_same]

/-- Settles O3: a write of a half writes its word, so the laws of the words give those of the halves. -/
theorem halvesAreViewsOfTheWords : Obligations.HalvesAreViewsOfTheWords := by
  refine ⟨fun s => ?views, fun w k hk => ?bits, fun reg v s => ?write⟩
  case views => exact ⟨rfl, rfl, rfl, rfl, rfl, rfl, rfl, rfl, rfl, rfl, rfl, rfl, rfl, rfl⟩
  case bits => rw [getLsbD_hiByte, getLsbD_loByte, decide_eq_true hk]; exact ⟨rfl, rfl⟩
  case write =>
    exact ⟨read8_write8_same reg v s, fun _ hne => read8_write8_other hne v s,
      fun _ hne => readReg_write8_other hne v s, write8_eq_writeReg reg v s⟩

/-! ### Memory -/

/-- The memory with the given bytes at the first `n` addresses, made by writing them. -/
def memoryOf (content : Nat → Byte) : Nat → Memory
  | 0 => []
  | n + 1 => memPut (memoryOf content n) n (content n)

theorem memoryOf_wf (content : Nat → Byte) {n : Nat} (hn : n ≤ 65536) :
    (memoryOf content n).wf = true := by
  induction n with
  | zero => rfl
  | succ n ih => exact memPut_wf _ hn (ih (Nat.le_of_succ_le hn))

theorem memGet_memoryOf (content : Nat → Byte) {n a : Nat} (ha : a < n) :
    memGet (memoryOf content n) a = content a := by
  induction n with
  | zero => cases ha
  | succ n ih =>
    rw [memoryOf]
    by_cases h : a = n
    · rw [h, memGet_memPut_same]
    · rw [memGet_memPut_other _ _ h, ih (by omega)]

theorem memWfFrom_cons {low a : Nat} {v : Byte} {rest : Memory} :
    memWfFrom low ((a, v) :: rest) = true ↔
      low ≤ a ∧ a < 65536 ∧ v ≠ unlistedByte ∧ memWfFrom (a + 1) rest = true := by
  simp only [memWfFrom, Bool.and_eq_true, decide_eq_true_eq, and_assoc]

/-- A canonical list reads as unlisted below its first address. -/
theorem memGet_of_lt {low a : Nat} {m : Memory} (hm : memWfFrom low m = true) (ha : a < low) :
    memGet m a = unlistedByte := by
  induction m generalizing low with
  | nil => rfl
  | cons cell rest ih =>
    obtain ⟨b, w⟩ := cell
    obtain ⟨hlow, -, -, hrest⟩ := memWfFrom_cons.mp hm
    rw [memGet, if_neg (by omega)]
    exact ih hrest (by omega)

/-- A listed byte is seen: a canonical list that is not empty does not read as unlisted at its head. -/
theorem memGet_head_ne {low b : Nat} {w : Byte} {rest m : Memory}
    (hm : memWfFrom low ((b, w) :: rest) = true) (hm' : memWfFrom (b + 1) m = true) :
    memGet ((b, w) :: rest) b ≠ memGet m b := by
  obtain ⟨-, -, hw, -⟩ := memWfFrom_cons.mp hm
  rwa [memGet, if_pos rfl, memGet_of_lt hm' (Nat.lt_succ_self b)]

/-- Two canonical lists that read alike are equal: their first addresses agree, because the lower one would
be seen in its own list only. -/
theorem eq_of_memGet_eq {low : Nat} {m m' : Memory} (hm : memWfFrom low m = true)
    (hm' : memWfFrom low m' = true) (h : ∀ a, a < 65536 → memGet m a = memGet m' a) : m = m' := by
  induction m generalizing low m' with
  | nil =>
    cases m' with
    | nil => rfl
    | cons cell' rest' =>
      obtain ⟨b', w'⟩ := cell'
      obtain ⟨-, hb', -, -⟩ := memWfFrom_cons.mp hm'
      exact absurd (h b' hb').symm (memGet_head_ne hm' rfl)
  | cons cell rest ih =>
    obtain ⟨b, w⟩ := cell
    obtain ⟨-, hb, -, hrest⟩ := memWfFrom_cons.mp hm
    cases m' with
    | nil => exact absurd (h b hb) (memGet_head_ne hm rfl)
    | cons cell' rest' =>
      obtain ⟨b', w'⟩ := cell'
      obtain ⟨-, hb', hw', hrest'⟩ := memWfFrom_cons.mp hm'
      obtain hlt | rfl | hgt := Nat.lt_trichotomy b b'
      · exact absurd (h b hb)
          (memGet_head_ne hm (memWfFrom_cons.mpr ⟨hlt, hb', hw', hrest'⟩))
      · have hw : w = w' := by simpa [memGet] using h b hb
        have htail : ∀ a, a < 65536 → memGet rest a = memGet rest' a := fun a ha => by
          by_cases hab : b = a
          · subst hab
            rw [memGet_of_lt hrest (Nat.lt_succ_self b), memGet_of_lt hrest' (Nat.lt_succ_self b)]
          · simpa [memGet, hab] using h a ha
        rw [hw, ih hrest hrest' htail]
      · obtain ⟨-, -, hw, -⟩ := memWfFrom_cons.mp hm
        exact absurd (h b' hb').symm
          (memGet_head_ne hm' (memWfFrom_cons.mpr ⟨hgt, hb, hw, hrest⟩))

/-- Settles O5: a function on the addresses has a list, and canonical lists are determined by their reads. -/
theorem memoryIsItsContents : Obligations.MemoryIsItsContents :=
  ⟨fun content => ⟨memoryOf content 65536, memoryOf_wf content le_rfl, fun _ => memGet_memoryOf content⟩,
    fun _ _ => eq_of_memGet_eq⟩

/-! ### The stack -/

/-- The two bytes a push stores are read back by a pop, when both are writable (R158, R159). -/
theorem readWord_push16With {writable : Word → Bool} (v : Word) {s : State}
    (h1 : writable (s.sp - 1) = true) (h2 : writable (s.sp - 2) = true) :
    readWord (s.sp - 2) (push16With writable v s) = v := by
  have hnext : s.sp - 2 + 1 = s.sp - 1 := by rw [word_sub_two, BitVec.sub_add_cancel]
  have hne : s.sp - 1 ≠ s.sp - 2 := hnext ▸ word_succ_ne _
  have hlow := pushed_push16With writable v s (s.sp - 2)
  have hhigh := pushed_push16With writable v s (s.sp - 1)
  rw [if_pos ⟨rfl, h2⟩] at hlow
  rw [if_neg fun h => hne h.1, if_pos ⟨rfl, h1⟩] at hhigh
  rw [readWord, hnext, hlow, hhigh, joinBytes_hiByte_loByte]

theorem pop16_eq (s : State) : pop16 s = (readWord s.sp s, { s with sp := s.sp + 2 }) :=
  word_add_two s.sp ▸ rfl

/-- Settles O6: where the bytes go is `pushed_push16With`, and the pop reads them back. -/
theorem popAfterPushGivesTheWordBack : Obligations.PopAfterPushGivesTheWordBack := by
  intro writable v s
  have hpush : push16With writable v s =
      { s with sp := s.sp - 2, mem := (push16With writable v s).mem } := word_sub_two s.sp ▸ rfl
  have hsp : (push16With writable v s).sp = s.sp - 2 := congrArg State.sp hpush
  refine ⟨hpush, pushed_push16With writable v s, fun h1 h2 => ?_⟩
  rw [pop16_eq, hsp, readWord_push16With v h1 h2, BitVec.sub_add_cancel]
  rfl

end Sys2Proof.Machine
end

section
/-! PROOFS. The host operations and the invariant (`43_host_interface.md`, `60_exceptions.md` R283). -/

namespace Sys2Proof.Machine

/-! ### The image load -/

/-- The bytes of an image are put at ascending addresses, and every other address keeps its byte (R188). -/
theorem memGet_putImage (image : List Byte) (k : Nat) (m : Memory) (a : Nat) :
    memGet (putImage image k m) a =
      if k ≤ a ∧ a < k + image.length then image.getD (a - k) 0 else memGet m a := by
  induction image generalizing k m with
  | nil => rw [putImage, if_neg (by simp)]
  | cons b rest ih =>
    rw [putImage, ih]
    obtain hlt | rfl | hgt := Nat.lt_trichotomy a k
    · rw [if_neg (by omega), if_neg (by omega), memGet_memPut_other _ _ (by omega)]
    · rw [if_neg (by omega), if_pos (by simp), memGet_memPut_same, Nat.sub_self, List.getD_cons_zero]
    · have hindex : a - k = a - (k + 1) + 1 := by omega
      rw [memGet_memPut_other _ _ (by omega), hindex, List.getD_cons_succ, List.length_cons]
      congr 1
      simp only [eq_iff_iff]
      omega

theorem putImage_wf {image : List Byte} {k : Nat} {m : Memory} (hk : k + image.length ≤ 65536)
    (hm : m.wf = true) : (putImage image k m).wf = true := by
  induction image generalizing k m with
  | nil => exact hm
  | cons b rest ih =>
    rw [List.length_cons] at hk
    exact ih (by omega) (memPut_wf b (by omega) hm)

theorem hostOp_load (p : Params) {image : List Byte} {s : State} (hopen : s.fatal = false)
    (hlen : image.length ≤ 65536) : hostOp p (.load image) s = .next (loadImage image s) := by
  simp only [hostOp, hopen, hlen, Bool.false_eq_true, if_true, if_false]

/-- Settles O7: where the image ends is where the old memory begins. -/
theorem imageLoadIsVerbatimAtZero : Obligations.ImageLoadIsVerbatimAtZero := by
  intro p image s hlen hopen
  refine ⟨_, hostOp_load p hopen hlen, rfl, fun x => ?_⟩
  have h := memGet_putImage image 0 s.mem x.toNat
  simp only [Nat.zero_le, true_and, Nat.zero_add, Nat.sub_zero] at h
  exact h

/-! ### The other operations -/

/-- Settles O8: while the session is open each operation is one write; once it is over each is refused by the
test of FATAL. -/
theorem hostOperationsDoWhatTheySay : Obligations.HostOperationsDoWhatTheySay := by
  refine ⟨fun p s hopen => ?opened, fun p s hfatal => ?closed, fun _ => rfl⟩
  case opened =>
    have hne : ¬ s.fatal = true := ne_true_of_eq_false hopen
    refine ⟨fun m => ?setMode, ?requestInt, ?requestNmi,
      fun a v => ⟨storeByte p.writable a v s, ?poke, rfl, fun x => ?read⟩, fun image hlen => ?load,
      ?isHalted, ?snapshot⟩
    case read =>
      exact (readByte_storeByte p.writable a x v s).trans (if_congr and_comm rfl rfl)
    case load =>
      have hfits : hostOp p (.load image) s =
        if image.length ≤ 65536 then .next (loadImage image s) else .fault .imageTooLong := if_neg hne
      rw [hfits, if_neg (Nat.not_le.mpr hlen)]
    all_goals exact if_neg hne
  case closed =>
    refine ⟨fun op => ?op, ?noIsHalted, ?noSnapshot, fun table => stepWith_of_fatal p table hfatal,
      fun stepper budget rounds => ?frame, fun info hinfo => ?report⟩
    case report => simp only [fatalReport, hinfo, Option.map_some]
    all_goals exact if_pos hfatal

theorem flag_launch (mem : Memory) (fl : Flag) : flag fl (State.launch mem) = true := by
  rw [flag_eq_getLsbD_af]
  change (0xFFFF : Word).getLsbD fl.bit = true
  cases fl <;> decide

/-- Settles O2: reset gives the launch state with the memory there is, and a launch state has these values. -/
theorem resetLeavesTheSpecsOwnValues : Obligations.ResetLeavesTheSpecsOwnValues := by
  intro p s mem hopen
  refine ⟨State.launch s.mem, hostOp_reset p hopen, rfl, rfl, rfl, fun u hu => ?_⟩
  obtain ⟨m, rfl⟩ := eq_launch_of_mem_launchStates hu
  exact ⟨rfl, rfl, rfl, rfl, rfl, rfl, flag_launch m⟩

/-! ### The invariant -/

theorem launch_inv {mem : Memory} (hmem : mem.wf = true) : (State.launch mem).inv = true :=
  inv_iff.mpr ⟨hmem, rfl, nofun⟩

/-- Settles O35: a launch state has FATAL and the flip-flops clear, and its memory is canonical by assumption. -/
theorem resetMeetsTheInvariant : Obligations.ResetMeetsTheInvariant :=
  ⟨launch_inv rfl, fun _ => launch_inv⟩

theorem hostOp_inv {p : Params} {op : HostOp} {s t : State} (hinv : s.inv = true)
    (h : hostOp p op s = .next t) : t.inv = true := by
  have hopen := fatal_eq_false_of_hostOp_next h
  obtain ⟨hwf, hagree, hmirror⟩ := inv_iff.mp hinv
  simp only [hostOp, hopen, Bool.false_eq_true, if_false] at h
  cases op with
  | reset => cases h; exact launch_inv hwf
  | setMode _ | requestInt | requestNmi => cases h; exact hinv
  | poke a v => cases h; exact inv_iff.mpr ⟨storeByte_wf p.writable a v hwf, hagree, hmirror⟩
  | load image =>
    dsimp only at h
    split at h
    · next hlen =>
      cases h
      exact inv_iff.mpr ⟨putImage_wf (by omega) hwf, hagree, hmirror⟩
    · cases h

/-- Settles O36: by induction on how the state is reached. -/
theorem hostOperationsKeepTheInvariant : Obligations.HostOperationsKeepTheInvariant := by
  refine fun p => ⟨fun _ _ _ => hostOp_inv, fun s hreach => ?_⟩
  induction hreach with
  | launch mem hmem => exact launch_inv hmem
  | event e _ hevent ih =>
    cases e with
    | step => exact machineStep_inv (machineStep_of_stepOf hevent) ih
    | host op => exact hostOp_inv ih hevent

end Sys2Proof.Machine
end

section
/-! PROOFS. The ordinary step (`41_step_sequencer.md` R146 to R153) for any table, and for the machine's table
the run of the instruction decoded. -/

namespace Sys2Proof.Machine

/-! ### Running a descriptor -/

theorem getD_operandBytes (src : Nat → Byte) (len : Nat) {n i : Nat} (hi : i < n) :
    (operandBytes src len n).getD i 0 = src (len + i) := by
  rw [Nat.add_comm]
  exact (startsWith_operandBytes src len n i (by rwa [operandBytes_length])).symm

/-- Running a descriptor on a state whose latches are clear, spelled out (R150 to R153). -/
theorem runDescriptor_of_clear {s : State} (d : Descriptor) (ops : List Byte) (extra : Nat)
    (hintp : s.intp = false) (hnmip : s.nmip = false) (hfatal : s.fatal = false) :
    ∃ u cyc, u = d.exec ops (hideSequencer s) ∧
      cyc = (if u.pc = s.pc then d.base else d.alt) + extra ∧
      runDescriptor d ops extra s = .next ⟨some cyc,
        { u with intp := false, nmip := false, tcyc := s.tcyc + cyc, fatal := false,
                 fatalInfo := s.fatalInfo }⟩ := by
  refine ⟨d.exec ops (hideSequencer s), _, rfl, rfl, ?_⟩
  rw [runDescriptor_eq, runExec_eq, keepSequencer, hintp, hnmip, hfatal]
  rfl

/-- Running the descriptor of a row is running its instruction, then the cost rule (R152). -/
theorem runDescriptor_of_row {p : Params} {row : Row} (hmem : row ∈ machineRows) {ops : List Byte}
    {s t : State} (extra : Nat) (hexec : execWith p.writable (row.make ops) s = .next t) :
    runDescriptor (rowDescriptor p row) ops extra s =
      .next ⟨some ((if t.pc = s.pc then costCycles p row.base else costCycles p row.alt) + extra),
        { t with tcyc := s.tcyc +
            ((if t.pc = s.pc then costCycles p row.base else costCycles p row.alt) + extra) }⟩ := by
  rw [runDescriptor_eq, runExec_rowDescriptor p hmem, rowDescriptor_exec hexec]
  rfl

theorem findRow_trefRows_mem {sel : Nat} {row : Row} (hrow : findRow trefRows sel = some row) :
    row ∈ machineRows :=
  List.mem_append_left _ (findRow_some hrow).1

theorem runDescriptor_trefTable {p : Params} {sel : Nat} {row : Row}
    (hrow : findRow trefRows sel = some row) {ops : List Byte} {s t : State} (extra : Nat)
    (hexec : execWith p.writable (row.make ops) s = .next t) :
    runDescriptor (trefTable p sel) ops extra s =
      .next ⟨some ((if t.pc = s.pc then costCycles p row.base else costCycles p row.alt) + extra),
        { t with tcyc := s.tcyc +
            ((if t.pc = s.pc then costCycles p row.base else costCycles p row.alt) + extra) }⟩ := by
  rw [trefTable, tableOf_some hrow]
  exact runDescriptor_of_row (findRow_trefRows_mem hrow) extra hexec

/-! ### The ordinary step -/

theorem stepWith_fetches_ok (p : Params) (table : Table) {s : State} {sel len : Nat}
    (hfetches : s.fetches = true) (hdecode : decodeSelector (pcSource s) = .ok sel len) :
    stepWith p table s =
      runDescriptor (table sel) (operandBytes (pcSource s) len (table sel).n) 0
        (advance (len + (table sel).n) { s with intp := false }) := by
  rw [stepWith_of_fetches p table hfetches]
  exact ordinaryStep_of_ok table (s := { s with intp := false }) hdecode

theorem add_ofNat_add (w : Word) (m n : Nat) :
    w + BitVec.ofNat 16 (m + n) = w + BitVec.ofNat 16 m + BitVec.ofNat 16 n := by
  rw [BitVec.ofNat_add, BitVec.add_assoc]

theorem trefTable_of_unmapped (p : Params) {sel : Nat} (h : findRow machineRows sel = none) :
    trefTable p sel = defaultDesc p :=
  tableOf_none (findRow_none.mpr fun row hrow => findRow_none.mp h row (List.mem_append_left _ hrow))

theorem machineTable_of_unmapped (p : Params) {sel : Nat} (h : findRow machineRows sel = none) :
    machineTable p sel = defaultDesc p := tableOf_none h

/-- Settles O22: the step is one run of the descriptor at the advanced PC. -/
theorem ordinaryStepIsThePhases : Obligations.OrdinaryStepIsThePhases := by
  refine ⟨fun p table s hfetches => ⟨fun b0 b1 b2 hdecode => ?fatal, fun sel len hdecode => ?ok⟩,
    fun p => ⟨tableOf_none rfl, fun sel h => trefTable_of_unmapped p (findRow_machineRows_none.mpr h)⟩⟩
  case fatal => exact ⟨_, stepWith_fetches_fatal p table hfetches hdecode, rfl⟩
  case ok =>
    obtain ⟨hfatal, hnmip, -, -⟩ := fetches_iff.mp hfetches
    obtain ⟨u, cyc, hu, hcyc, hrun⟩ := runDescriptor_of_clear
      (s := advance (len + (table sel).n) { s with intp := false }) (table sel)
      (operandBytes (pcSource s) len (table sel).n) 0 rfl hnmip hfatal
    rw [← stepWith_fetches_ok p table hfetches hdecode] at hrun
    simp only [← add_ofNat_add]
    exact ⟨operandBytes (pcSource s) len (table sel).n, _, u, cyc, operandBytes_length _ _ _,
      fun i hi => getD_operandBytes _ _ hi, rfl, hu, hcyc, hrun⟩

/-- A masked request makes no difference to a step whose bytes decode (R271). -/
theorem stepWith_intp_irrelevant (p : Params) (table : Table) {s : State} {sel len : Nat}
    (hfetches : s.fetches = true) (hdecode : decodeSelector (pcSource s) = .ok sel len) :
    stepWith p table s = stepWith p table { s with intp := false } := by
  obtain ⟨hfatal, hnmip, -, hhalt⟩ := fetches_iff.mp hfetches
  have hfetches' : { s with intp := false }.fetches = true :=
    fetches_iff.mpr ⟨hfatal, hnmip, rfl, hhalt⟩
  rw [stepWith_fetches_ok p table hfetches hdecode,
    stepWith_fetches_ok p table (s := { s with intp := false }) hfetches' hdecode]
  rfl

theorem tcyc_of_exec {i : Instr} {s t : State} (hexec : exec i s = .next t) : t.tcyc = s.tcyc := by
  obtain ⟨t', ht', -, -, htcyc, -⟩ := everyInstructionCompletes i s
  cases hexec.symm.trans ht'
  exact htcyc

@[simp] theorem exec_fatalInstr (p q r : Prefix) (s : State) :
    exec (fatalInstr p q r) s = .next (raiseFatal s.pc p.byte q.byte r.byte s) := by
  cases p <;> cases q <;> cases r <;> rfl

/-- Three prefix bytes decode to their own constructor. -/
theorem decode_of_decodeSelector_fatal {src : Nat → Byte} {b0 b1 b2 : Byte}
    (hdecode : decodeSelector src = .fatal b0 b1 b2) :
    ∃ p q r : Prefix, decode src = ⟨fatalInstr p q r, 0, 0⟩ ∧ b0 = p.byte ∧ b1 = q.byte ∧ b2 = r.byte := by
  obtain ⟨h0, h1, h2, e0, e1, e2⟩ := decodeSelector_eq_fatal_iff.mp hdecode
  obtain ⟨p, rfl⟩ := isPrefixByte_iff.mp h0
  obtain ⟨q, rfl⟩ := isPrefixByte_iff.mp h1
  obtain ⟨r, rfl⟩ := isPrefixByte_iff.mp h2
  exact ⟨p, q, r, decode_of_scan_fatal (scan_fatal e0 e1 e2), rfl, rfl, rfl⟩

/-- Settles O21: the descriptor looked up runs `exec` of the decoded instruction. -/
theorem stepRunsTheDecodedInstruction : Obligations.StepRunsTheDecodedInstruction := by
  refine fun s hfetches => ⟨fun b0 b1 b2 hdecode => ?fatal, fun sel len t hdecode => ?ok⟩
  case fatal =>
    obtain ⟨p, q, r, hinstr, rfl, rfl, rfl⟩ := decode_of_decodeSelector_fatal hdecode
    rw [hinstr, exec_fatalInstr]
    exact stateOnly_eq_next.mpr ⟨none, stepWith_fetches_fatal _ _ hfetches hdecode⟩
  case ok =>
    obtain ⟨hlen, hn, hrun⟩ := machineTable_of_decodeSelector hdecode Config.params
    refine ⟨hlen, hn, fun hexec => ?_⟩
    have htcyc := tcyc_of_exec hexec
    have hstate := hrun (advance (len + (machineTable Config.params sel).n) { s with intp := false }) t
      ((execWith_default _ _).trans hexec)
    have hstep := stepWith_fetches_ok Config.params (machineTable Config.params) hfetches hdecode
    rw [runDescriptor_eq, hstate] at hstep
    rw [htcyc]
    exact stateOnly_eq_next.mpr ⟨_, hstep⟩

end Sys2Proof.Machine
end

section
/-! PROOFS. Wrapping at 0xFFFF (`10_state.md` R33, `20_memory.md` R76). -/

namespace Sys2Proof.Machine

theorem add_ofNat_eq (w : Word) (k : Nat) :
    w + BitVec.ofNat 16 k = BitVec.ofNat 16 ((w.toNat + k) % 65536) :=
  BitVec.eq_of_toNat_eq (by simp)

theorem pcSource_eq (s : State) (i : Nat) :
    pcSource s i = readByte (BitVec.ofNat 16 ((s.pc.toNat + i) % 65536)) s :=
  congrArg (readByte · s) (add_ofNat_eq s.pc i)

/-- At 0xFFFF the second byte of the fetch is the one at address 0. -/
theorem pcSource_one_of_pc_max {s : State} (hpc : s.pc = 0xFFFF) : pcSource s 1 = readByte 0x0000 s := by
  rw [pcSource_eq, hpc]
  rfl

theorem pcSource_zero_of_pc_max {s : State} (hpc : s.pc = 0xFFFF) :
    pcSource s 0 = readByte 0xFFFF s := by
  rw [pcSource_zero, hpc]

/-- The state a two-byte instruction at 0xFFFF runs on (R33). -/
theorem advance_two_of_pc_max {s : State} (hpc : s.pc = 0xFFFF) :
    advance 2 { s with intp := false } = { s with pc := 0x0001, intp := false } := by
  rw [advance, hpc]
  rfl

/-- A step of TREF on a two-byte instruction at 0xFFFF which does not move PC. -/
theorem stepWith_tref_of_pc_max {p : Params} {s t : State} {sel len : Nat} {row : Row}
    (hfetches : s.fetches = true) (hpc : s.pc = 0xFFFF)
    (hdecode : decodeSelector (pcSource s) = .ok sel len) (hrow : findRow trefRows sel = some row)
    (htwo : len + row.n = 2)
    (hexec : execWith p.writable (row.make (operandBytes (pcSource s) len row.n))
      { s with pc := 0x0001, intp := false } = .next t) (hstays : t.pc = 0x0001) :
    stepWith p (trefTable p) s =
      .next ⟨some (costCycles p row.base), { t with tcyc := s.tcyc + costCycles p row.base }⟩ := by
  have hn : (trefTable p sel).n = row.n := by
    rw [trefTable, tableOf_some hrow]
    rfl
  rw [stepWith_fetches_ok p _ hfetches hdecode, hn, htwo, advance_two_of_pc_max hpc,
    runDescriptor_trefTable hrow 0 hexec, if_pos hstays]
  rfl

/-- Settles O23: the step is that of the two bytes, and `0xFFFF + 2 = 1`. -/
theorem pcWrapsModulo65536 : Obligations.PcWrapsModulo65536 := by
  refine ⟨fun s k => ?advance, pcSource_eq, fun p table s sel len hfetches hpc hdecode htwo => ?two,
    fun p s hfetches hpc => ⟨fun h0 => ?ldAN, fun h0 h1 => ?ldAI, fun h0 h1 => ?rlcB⟩⟩
  case advance =>
    rw [advance_pc, add_ofNat_eq, BitVec.toNat_ofNat]
    omega
  case two =>
    have hstep := stepWith_fetches_ok p table hfetches hdecode
    rw [htwo, advance_two_of_pc_max hpc, runDescriptor_eq] at hstep
    exact ⟨pcSource_one_of_pc_max hpc, _, _, hstep, fun hpcKept => hpcKept _ _ rfl,
      fun hafKept => hafKept _ _⟩
  all_goals rw [← pcSource_zero_of_pc_max hpc] at h0
  case ldAN =>
    have hdecode : decodeSelector (pcSource s) = .ok 62 1 := by
      rw [decodeSelector_bare (h0 ▸ by decide), h0]
      rfl
    rw [← pcSource_one_of_pc_max hpc]
    exact stepWith_tref_of_pc_max hfetches hpc hdecode rfl rfl rfl rfl
  all_goals rw [← pcSource_one_of_pc_max hpc] at h1
  case ldAI =>
    have hdecode : decodeSelector (pcSource s) = .ok 855 2 := by
      rw [decodeSelector_one .ed h0 (h1 ▸ by decide), h1]
      rfl
    exact ⟨_, stepWith_tref_of_pc_max hfetches hpc hdecode rfl rfl rfl rfl, rfl,
      read8_write8_f_write8_same (by decide) _ _ _⟩
  case rlcB =>
    have hdecode : decodeSelector (pcSource s) = .ok 1024 2 := by
      rw [decodeSelector_one .cb h0 (h1 ▸ by decide), h1]
      rfl
    exact ⟨_, stepWith_tref_of_pc_max hfetches hpc hdecode rfl rfl rfl rfl, rfl,
      hiByte_joinBytes _ _⟩

end Sys2Proof.Machine
end

section
/-! PROOFS. Interrupt acceptance and the masked request (`60_exceptions.md` R270 to R276). -/

namespace Sys2Proof.Machine

/-- Acceptance of an NMI as the statement tells it (R272). -/
theorem takeNmi_eq (p : Params) (s : State) :
    takeNmi p s =
      { s with halt := false, iff1 := false, sp := s.sp - 2, pc := p.nmiVector,
               mem := (takeNmi p s).mem } := by
  rw [word_sub_two]
  rfl

/-- Acceptance in mode 1 as the statement tells it (R275). -/
theorem takeInt1_eq (p : Params) (s : State) :
    takeInt1 p s =
      { s with halt := false, iff1 := false, iff2 := false, sp := s.sp - 2, pc := p.im1Vector,
               mem := (takeInt1 p s).mem } := by
  rw [word_sub_two]
  rfl

/-- Acceptance in mode 2 as the statement tells it: the table entry is read in the memory the push leaves
(R276). -/
theorem takeInt2_eq (p : Params) (s : State) :
    takeInt2 p s =
      { s with halt := false, iff1 := false, iff2 := false, sp := s.sp - 2,
               pc := readWord (joinBytes (read8 .i s) (p.intDevice 0)) (takeInt2 p s),
               mem := (takeInt2 p s).mem } := by
  rw [word_sub_two]
  rfl

/-- A call as the statements tell it (R240). -/
theorem callToWith_eq_sub_two (writable : Word → Bool) (target : Word) (s : State) :
    callToWith writable target s =
      { s with sp := s.sp - 2, pc := target, mem := (callToWith writable target s).mem } := by
  rw [word_sub_two]
  rfl

/-- The state a step leaves when it reports a count. -/
def counted (cycles : Nat) (s : State) : State := { s with tcyc := s.tcyc + cycles }

theorem report_eq (cycles : Nat) (s : State) : report cycles s = .next ⟨some cycles, counted cycles s⟩ := rfl

/-- Settles O24: the NMI is first in the priorities, and leaves a state that fetches, in which a request makes
no difference (R270). -/
theorem nmiIsTakenFirst : Obligations.NmiIsTakenFirst := by
  refine ⟨fun p table s hfatal hnmip =>
    ⟨counted p.nmiAckCycles (takeNmi p { s with nmip := false }), ?step, ?state, ?pushed, ?next⟩, rfl, rfl⟩
  case step => exact stepWith_of_nmi p table hfatal hnmip
  case state => exact congrArg (counted p.nmiAckCycles) (takeNmi_eq p { s with nmip := false })
  case pushed => exact pushed_push16With p.writable s.pc (clearForNmi { s with nmip := false })
  case next =>
    have hfetches : (counted p.nmiAckCycles (takeNmi p { s with nmip := false })).fetches = true :=
      fetches_iff.mpr (by simp [counted, takeNmi, enterHandler, hfatal])
    exact fun sel len => stepWith_intp_irrelevant p table hfetches

/-- Settles O25: the mode selects the acceptance, which enters the handler once. -/
theorem intModesOneAndTwo : Obligations.IntModesOneAndTwo := by
  refine ⟨fun p table s hfatal hnmip hintp hiff1 => ?_, rfl, rfl, rfl⟩
  rw [stepWith_of_int hfatal hnmip hintp hiff1]
  refine ⟨fun him => ?mode1, fun him => ?mode2⟩
  case mode1 =>
    rw [acceptInt_mode1 p table (s := { s with intp := false }) s him]
    exact ⟨_, report_eq _ _, congrArg (counted p.im1AckCycles) (takeInt1_eq p { s with intp := false }),
      pushed_push16With p.writable s.pc (clearForInt { s with intp := false })⟩
  case mode2 =>
    rw [acceptInt_mode2 p table (s := { s with intp := false }) s him]
    exact ⟨_, report_eq _ _, congrArg (counted p.im2AckCycles) (takeInt2_eq p { s with intp := false }),
      pushed_push16With p.writable s.pc (clearForInt { s with intp := false })⟩

/-- Settles O26: the device's instruction runs on the state with the flip-flops cleared, and 0xFF is RST 0x38. -/
theorem intModeZero : Obligations.IntModeZero := by
  refine ⟨fun p table s hfatal hnmip hintp hiff1 him => ?_, rfl⟩
  rw [stepWith_of_int hfatal hnmip hintp hiff1,
    acceptInt_mode0 p table (s := { s with intp := false }) s him]
  refine ⟨fun sel len hdecode => ?device, fun hdevice htable => ?rst38⟩
  case device =>
    obtain ⟨u, cyc, hu, hcyc, hrun⟩ := runDescriptor_of_clear (s := clearForInt { s with intp := false })
      (table sel) (operandBytes p.intDevice len (table sel).n) p.im0AckExtra rfl hnmip hfatal
    rw [acceptInt0_of_ok p table hdecode]
    exact ⟨operandBytes p.intDevice len (table sel).n, u, cyc, operandBytes_length _ _ _,
      fun i hi => getD_operandBytes _ _ hi, hu, hcyc, hrun⟩
  case rst38 =>
    subst htable
    have hdecode : decodeSelector p.intDevice = .ok 255 1 := by
      rw [decodeSelector_bare (hdevice 0 ▸ by decide), hdevice 0]
      rfl
    have hrow : findRow trefRows 255 = some ⟨255, 0, .cycles 11, .cycles 11, fun _ => .rst38⟩ := rfl
    rw [acceptInt0_of_ok p _ hdecode, runDescriptor_trefTable hrow p.im0AckExtra rfl, costCycles, ite_self]
    exact ⟨_, rfl,
      congrArg (counted (11 + p.im0AckExtra))
        (callToWith_eq_sub_two p.writable 0x0038 (clearForInt { s with intp := false })),
      pushed_callToWith p.writable 0x0038 (clearForInt { s with intp := false })⟩

/-- Settles O27: the idle drops the request, and so does a step that fetches, which it makes no difference to. -/
theorem maskedRequestIsDropped : Obligations.MaskedRequestIsDropped := by
  intro p table s hfatal hnmip _ hiff1
  have hint : (s.intp && s.iff1) = false := by rw [hiff1, Bool.and_false]
  exact ⟨stepWith_of_idle p table hfatal hnmip hint,
    fun hhalt _ _ => stepWith_intp_irrelevant p table (fetches_iff.mpr ⟨hfatal, hnmip, hint, hhalt⟩)⟩

end Sys2Proof.Machine
end

section
/-! PROOFS. HALT and the idle (`60_exceptions.md` R277, R278), and I and R over a step (`10_state.md` R30). -/

namespace Sys2Proof.Machine

/-! ### The idle -/

theorem runSteps_succ_of_next {stepper : State → Host.Outcome Returned Fault Refusal} {k c sum : Nat}
    {s s' t : State} (hstep : stepper s = .next ⟨some c, s'⟩)
    (hrest : runSteps stepper k s' = .next ⟨some sum, t⟩) :
    runSteps stepper (k + 1) s = .next ⟨some (c + sum), t⟩ := by
  simp only [runSteps, hstep, hrest]

/-- Settles O28: by induction on the number of steps; after the first the request is gone. -/
theorem haltIdlesForAnyNumberOfSteps : Obligations.HaltIdlesForAnyNumberOfSteps := by
  refine ⟨fun p table s k => ?_, rfl⟩
  induction k generalizing s with
  | zero => exact fun _ _ _ _ => rfl
  | succ k ih =>
    intro hfatal hnmip hint hhalt
    have hstep := stepWith_of_idle p table hfatal hnmip hint hhalt
    have hrest := ih { s with intp := false, tcyc := s.tcyc + p.haltIdleCycles } hfatal hnmip rfl hhalt
    have hcount : p.haltIdleCycles * (k + 1) = p.haltIdleCycles + p.haltIdleCycles * k := by
      rw [Nat.mul_succ, Nat.add_comm]
    rw [runSteps_succ_of_next hstep hrest, hcount, ite_self, if_neg (Nat.succ_ne_zero k), Nat.add_assoc]

/-! ### HALT over a step -/

theorem execWith_halt {writable : Word → Bool} {i : Instr} {s u : State}
    (h : execWith writable i s = .next u) (hi : i ≠ .halt) : u.halt = s.halt := by
  obtain ⟨t, ht, hu, -⟩ := exists_exec_of_execWith h
  have hhalt := exec_halt ht hi
  exact (congrArg State.halt hu).trans hhalt

/-- A running core is halted by HALT only, at PC or from the device in mode 0. -/
theorem machineStep_halts {p : Params} {s t : State} (h : MachineStep p s t) (hs : s.halt = false)
    (ht : t.halt = true) :
    (s.fetches = true ∧ (decode (pcSource s)).instr = .halt) ∨
      (s.intp = true ∧ s.iff1 = true ∧ s.im = .mode0 ∧ (decode p.intDevice).instr = .halt) := by
  cases h with
  | nmi _ | int1 _ _ _ _ | int2 _ _ _ _ => cases ht
  | int0 _ _ hintp hiff1 him _ hexec =>
    refine .inr ⟨hintp, hiff1, him, ?_⟩
    by_contra hi
    cases (execWith_halt hexec hi).symm.trans ht
  | fetched _ hfetches _ hexec =>
    refine .inl ⟨hfetches, ?_⟩
    by_contra hi
    cases hs.symm.trans ((execWith_halt hexec hi).symm.trans ht)
  | idle _ _ hhalt => cases hs.symm.trans hhalt
  | int0Fatal _ _ _ _ _ | fetchedFatal _ _ => cases hs.symm.trans ht

/-- A halted core that accepts a request runs afterwards, but for what the device may supply in mode 0. -/
theorem machineStep_wakes {p : Params} {s t : State} (h : MachineStep p s t) (hs : s.halt = true)
    (hrequest : s.nmip = true ∨ (s.intp = true ∧ s.iff1 = true)) :
    t.halt = false ∨
      (s.nmip = false ∧ s.im = .mode0 ∧
        ((decode p.intDevice).instr = .halt ∨
          ∃ b0 b1 b2, decodeSelector p.intDevice = .fatal b0 b1 b2)) := by
  cases h with
  | nmi _ | int1 _ _ _ _ | int2 _ _ _ _ => exact .inl rfl
  | int0 _ hnmip _ _ him _ hexec =>
    by_cases hi : (decode p.intDevice).instr = .halt
    · exact .inr ⟨hnmip, him, .inl hi⟩
    · exact .inl (execWith_halt hexec hi)
  | int0Fatal hnmip _ _ him hdecode => exact .inr ⟨hnmip, him, .inr ⟨_, _, _, hdecode⟩⟩
  | idle hnmip hint _ =>
    simp only [hnmip, Bool.false_eq_true, false_or] at hrequest
    simp only [hrequest, Bool.and_self, Bool.true_eq_false] at hint
  | fetched _ hfetches _ _ | fetchedFatal hfetches _ =>
    obtain ⟨-, -, -, hhalt⟩ := fetches_iff.mp hfetches
    cases hs.symm.trans hhalt

/-- A halted core that accepts nothing idles. -/
theorem machineStep_idles {p : Params} {s t : State} (h : MachineStep p s t) (hs : s.halt = true)
    (hnmip : s.nmip = false) (hmasked : s.intp = true → s.iff1 = false) :
    t = { s with intp := false, tcyc := t.tcyc } := by
  cases h with
  | nmi h => cases hnmip.symm.trans h
  | int1 _ hintp hiff1 _ | int2 _ hintp hiff1 _ | int0 _ _ hintp hiff1 _ _ _
  | int0Fatal _ hintp hiff1 _ _ => cases (hmasked hintp).symm.trans hiff1
  | idle _ _ _ => rfl
  | fetched _ hfetches _ _ | fetchedFatal hfetches _ =>
    obtain ⟨-, -, -, hhalt⟩ := fetches_iff.mp hfetches
    cases hs.symm.trans hhalt

/-- HALT is decoded from its one byte only (R171). -/
theorem decodeSelector_of_halt {src : Nat → Byte} (h : (decode src).instr = .halt) :
    decodeSelector src = .ok 118 1 := by
  have h0 : src 0 = 0x76 := by
    have hencode := encodeOfDecode src
    rw [h] at hencode
    obtain hstarts | ⟨-, hed, -, -, hstarts⟩ := hencode
    · exact hstarts 0 (by decide)
    · cases hed.symm.trans (hstarts 0 (by decide))
  rw [decodeSelector_bare (h0 ▸ by decide), h0]
  rfl

/-- A step on HALT sets HALT and leaves PC at the byte after it (R171). -/
theorem step_of_halt {s : State} (hfetches : s.fetches = true)
    (hhalt : (decode (pcSource s)).instr = .halt) :
    ∃ t, step s = .next t ∧ t.halt = true ∧ t.pc = s.pc + 1 := by
  obtain ⟨-, hstep⟩ := stepRunsTheDecodedInstruction s hfetches
  obtain ⟨-, -, hnext⟩ := hstep 118 1 _ (decodeSelector_of_halt hhalt)
  rw [hhalt] at hnext
  exact ⟨_, hnext rfl, rfl, rfl⟩

theorem halt_of_hostOp_reset {p : Params} {s t : State} (h : hostOp p .reset s = .next t) :
    t.halt = false := by
  rw [hostOp_reset p (fatal_eq_false_of_hostOp_next h)] at h
  cases h
  rfl

/-- Settles O29: by the cases of a step (`MachineStep`); of the instructions only HALT writes HALT. -/
theorem haltStateMachine : Obligations.HaltStateMachine := by
  refine ⟨fun s t h => ?_, fun _ => step_of_halt, fun _ _ _ => halt_of_hostOp_reset⟩
  have hstep := machineStep_of_stepOf h
  exact ⟨machineStep_halts hstep, machineStep_wakes hstep, machineStep_idles hstep⟩

/-! ### I and R over a step -/

/-- LD I,A keeps R, and no other instruction writes IR (R207). -/
theorem exec_r {i : Instr} {s t : State} (hexec : exec i s = .next t) : read8 .r t = read8 .r s := by
  by_cases hi : i = .ldIA
  · subst hi
    cases hexec
    exact read8_write8_other (by decide) _ s
  · exact congrArg loByte (exec_ir hexec hi)

theorem execWith_ir {writable : Word → Bool} {i : Instr} {s u : State}
    (h : execWith writable i s = .next u) (hi : i ≠ .ldIA) : u.ir = s.ir := by
  obtain ⟨t, ht, hu, -⟩ := exists_exec_of_execWith h
  have hir := exec_ir ht hi
  exact (congrArg State.ir hu).trans hir

theorem execWith_r {writable : Word → Bool} {i : Instr} {s u : State}
    (h : execWith writable i s = .next u) : read8 .r u = read8 .r s := by
  obtain ⟨t, ht, hu, -⟩ := exists_exec_of_execWith h
  have hr := exec_r ht
  exact (congrArg (read8 .r) hu).trans hr

/-- A step leaves IR alone, or it runs LD I,A, which leaves R alone. -/
theorem machineStep_ir {p : Params} {s t : State} (h : MachineStep p s t) :
    t.ir = s.ir ∨
      (read8 .r t = read8 .r s ∧
        ((decode (pcSource s)).instr = .ldIA ∨
          (s.im = .mode0 ∧ s.intp = true ∧ s.iff1 = true ∧ (decode p.intDevice).instr = .ldIA))) := by
  cases h with
  | int0 _ _ hintp hiff1 him _ hexec =>
    have hr := execWith_r hexec
    by_cases hi : (decode p.intDevice).instr = .ldIA
    · exact .inr ⟨hr, .inr ⟨him, hintp, hiff1, hi⟩⟩
    · have hir := execWith_ir hexec hi
      exact .inl hir
  | fetched _ _ _ hexec =>
    have hr := execWith_r hexec
    by_cases hi : (decode (pcSource s)).instr = .ldIA
    · exact .inr ⟨hr, .inl hi⟩
    · have hir := execWith_ir hexec hi
      exact .inl hir
  | nmi _ | int1 _ _ _ _ | int2 _ _ _ _ | idle _ _ _ | int0Fatal _ _ _ _ _ | fetchedFatal _ _ =>
    exact .inl rfl

/-- Settles O38: by the cases of a step; of the instructions only LD I,A writes IR. -/
theorem rIsStorageOnly : Obligations.RIsStorageOnly := by
  intro s t h
  obtain hir | ⟨hr, hldIA⟩ := machineStep_ir (machineStep_of_stepOf h)
  · exact ⟨congrArg loByte hir, fun hchanged => absurd (congrArg hiByte hir) hchanged⟩
  · exact ⟨hr, fun _ => hldIA⟩

end Sys2Proof.Machine
end

section
/-! PROOFS. The table contract and the costs of the machine's tables (`41_step_sequencer.md` R142,
`44_reference_table.md` R259). -/

namespace Sys2Proof.Machine

theorem rowDescriptor_contract (p : Params) {row : Row} (hmem : row ∈ machineRows) :
    (rowDescriptor p row).Contract p.writable := by
  intro ops s
  obtain ⟨u, hu⟩ := execWith_next p.writable (row.make ops) s
  obtain ⟨t, -, -, hread⟩ := exists_exec_of_execWith hu
  refine ⟨(runExec_rowDescriptor p hmem ops s).symm, ?_⟩
  rw [rowDescriptor_exec hu]
  refine ⟨execWith_mem_wf hu, fun a ha => ?_⟩
  rw [hread a, if_neg (ne_true_of_eq_false ha)]

theorem defaultDesc_contract (p : Params) : (defaultDesc p).Contract p.writable :=
  fun _ _ => ⟨rfl, id, fun _ _ => rfl⟩

/-- Whether a cost is greater than 0 when `DEFAULT_CYCLES` is. -/
def costIsPositive : Cost → Bool
  | .cycles count => decide (0 < count)
  | .defaultCycles => true

theorem costCycles_pos {p : Params} (hdefault : 0 < p.defaultCycles) {cost : Cost}
    (h : costIsPositive cost = true) : 0 < costCycles p cost := by
  cases cost with
  | cycles count => exact of_decide_eq_true h
  | defaultCycles => exact hdefault

theorem machineRows_costs {row : Row} (hmem : row ∈ machineRows) :
    costIsPositive row.base = true ∧ costIsPositive row.alt = true := by
  have hall : (machineRows.all fun row => costIsPositive row.base && costIsPositive row.alt) = true := by
    decide
  exact (Bool.and_eq_true _ _).mp (List.all_eq_true.mp hall row hmem)

section Tables

variable (p : Params) {rows : List Row} (hrows : rows ⊆ machineRows)
include hrows

theorem tableOf_contract : (tableOf p rows).Contract p.writable := by
  intro sel
  cases hrow : findRow rows sel with
  | some row =>
    rw [tableOf_some hrow]
    exact rowDescriptor_contract p (hrows (findRow_some hrow).1)
  | none =>
    rw [tableOf_none hrow]
    exact defaultDesc_contract p

theorem tableOf_n_le (sel : Nat) : (tableOf p rows sel).n ≤ 2 := by
  cases hrow : findRow rows sel with
  | some row =>
    rw [tableOf_some hrow]
    exact machineRows_n_le (hrows (findRow_some hrow).1)
  | none =>
    rw [tableOf_none hrow]
    exact Nat.zero_le 2

theorem tableOf_costs_pos (hdefault : 0 < p.defaultCycles) (sel : Nat) :
    0 < (tableOf p rows sel).base ∧ 0 < (tableOf p rows sel).alt := by
  cases hrow : findRow rows sel with
  | some row =>
    obtain ⟨hbase, halt⟩ := machineRows_costs (hrows (findRow_some hrow).1)
    rw [tableOf_some hrow]
    exact ⟨costCycles_pos hdefault hbase, costCycles_pos hdefault halt⟩
  | none =>
    rw [tableOf_none hrow]
    exact ⟨hdefault, hdefault⟩

end Tables

theorem trefRows_subset : trefRows ⊆ machineRows := List.subset_append_left _ _

/-- Settles O31: both tables are made of rows of the machine's table. -/
theorem tablesMeetTheContract : Obligations.TablesMeetTheContract := by
  intro p
  refine ⟨tableOf_contract p trefRows_subset, tableOf_contract p (List.Subset.refl _), fun sel =>
    ⟨tableOf_n_le p trefRows_subset sel, tableOf_n_le p (List.Subset.refl _) sel, fun hdefault => ?_⟩⟩
  obtain ⟨htrefBase, htrefAlt⟩ := tableOf_costs_pos p trefRows_subset hdefault sel
  obtain ⟨hbase, halt⟩ := tableOf_costs_pos p (List.Subset.refl _) hdefault sel
  exact ⟨htrefBase, htrefAlt, hbase, halt⟩

end Sys2Proof.Machine
end

section
/-! PROOFS. The frame driver (`43_host_interface.md` R187): what a step returns, and the loop over it. -/

namespace Sys2Proof.Machine

/-! ### What a step returns -/

/-- The counts a step can return (R152, R269): an acceptance cost, the idle cost, or a cost of the table with
what mode 0 adds. -/
inductive StepCost (p : Params) (table : Table) : Nat → Prop
  | nmi : StepCost p table p.nmiAckCycles
  | int1 : StepCost p table p.im1AckCycles
  | int2 : StepCost p table p.im2AckCycles
  | idle : StepCost p table p.haltIdleCycles
  | base (sel extra : Nat) : StepCost p table ((table sel).base + extra)
  | alt (sel extra : Nat) : StepCost p table ((table sel).alt + extra)

/-- A step that answers returns a count and leaves the session open, or returns none and ends it (R260). -/
def Answers (p : Params) (table : Table) (out : Host.Outcome Returned Fault Refusal) : Prop :=
  (∃ c t, StepCost p table c ∧ t.fatal = false ∧ out = .next ⟨some c, t⟩) ∨
    ∃ t, t.fatal = true ∧ out = .next ⟨none, t⟩

section Answers

variable (p : Params) (table : Table)

theorem answers_report {c : Nat} {s : State} (hc : StepCost p table c) (hs : s.fatal = false) :
    Answers p table (report c s) := .inl ⟨c, counted c s, hc, hs, rfl⟩

theorem answers_reportFatal (start : Word) (b0 b1 b2 : Byte) (s : State) :
    Answers p table (reportFatal start b0 b1 b2 s) := .inr ⟨_, rfl, rfl⟩

theorem answers_runDescriptor (sel extra : Nat) (ops : List Byte) {s : State} (hs : s.fatal = false) :
    Answers p table (runDescriptor (table sel) ops extra s) := by
  refine answers_report p table ?_ hs
  unfold costOf
  split
  · exact .base sel extra
  · exact .alt sel extra

theorem answers_stepWith {s : State} (hs : s.fatal = false) : Answers p table (stepWith p table s) := by
  obtain ⟨hfatal, -⟩ | ⟨-, -, e⟩ | ⟨-, -, -, -, e⟩ | ⟨-, -, -, -, e⟩ | ⟨-, -, -, -, e⟩ :=
    stepWith_cases p table s
  · cases hs.symm.trans hfatal
  all_goals rw [e]
  · exact answers_report p table .nmi hs
  · unfold acceptInt
    split
    · unfold acceptInt0
      split
      · exact answers_reportFatal ..
      · exact answers_runDescriptor _ _ _ _ _ hs
    · exact answers_report p table .int1 hs
    · exact answers_report p table .int2 hs
  · exact answers_report p table .idle hs
  · unfold ordinaryStep
    split
    · exact answers_reportFatal ..
    · exact answers_runDescriptor _ _ _ _ _ hs

end Answers

theorem stepCost_pos {p : Params} {table : Table} {c : Nat} (h : StepCost p table c)
    (htable : ∀ sel, 0 < (table sel).base ∧ 0 < (table sel).alt) (hidle : 0 < p.haltIdleCycles)
    (hnmi : 0 < p.nmiAckCycles) (him1 : 0 < p.im1AckCycles) (him2 : 0 < p.im2AckCycles) : 0 < c := by
  cases h with
  | nmi => exact hnmi
  | int1 => exact him1
  | int2 => exact him2
  | idle => exact hidle
  | base sel extra => exact Nat.add_pos_left (htable sel).1 extra
  | alt sel extra => exact Nat.add_pos_left (htable sel).2 extra

theorem fatal_of_stepWith_some {p : Params} {table : Table} {s t : State} {c : Nat}
    (h : stepWith p table s = .next ⟨some c, t⟩) : t.fatal = false ∧ StepCost p table c := by
  obtain ⟨c', t', hc, ht, e⟩ | ⟨t', -, e⟩ :=
    answers_stepWith p table (fatal_eq_false_of_stepWith_next h)
  · cases h.symm.trans e; exact ⟨ht, hc⟩
  · cases h.symm.trans e

theorem fatal_of_stepWith_none {p : Params} {table : Table} {s t : State}
    (h : stepWith p table s = .next ⟨none, t⟩) : t.fatal = true := by
  obtain ⟨_, _, -, -, e⟩ | ⟨t', ht, e⟩ := answers_stepWith p table (fatal_eq_false_of_stepWith_next h)
  · cases h.symm.trans e
  · cases h.symm.trans e; exact ht

/-! ### The loop, one round -/

section Loop

variable {stepper : State → Host.Outcome Returned Fault Refusal} {budget rounds t : Nat} {s : State}

theorem frameLoop_done (h : ¬ t < budget) :
    frameLoop stepper budget (rounds + 1) t s = some (.next ⟨some t, s⟩) := by
  rw [frameLoop, if_neg h]

theorem frameLoop_counted {c : Nat} {s' : State} (h : t < budget) (hstep : stepper s = .next ⟨some c, s'⟩) :
    frameLoop stepper budget (rounds + 1) t s = frameLoop stepper budget rounds (t + c) s' := by
  rw [frameLoop, if_pos h, hstep]

/-- The outcome of a step that ends the loop: one without a count. -/
theorem frameLoop_ended (h : t < budget) (hstep : ∀ c s', stepper s ≠ .next ⟨some c, s'⟩) :
    frameLoop stepper budget (rounds + 1) t s = some (stepper s) := by
  rw [frameLoop, if_pos h]
  split
  · next c s' e => exact absurd e (hstep c s')
  all_goals next e => rw [e]

/-- The three things a round does. -/
theorem frameLoop_succ_cases (stepper : State → Host.Outcome Returned Fault Refusal) (budget rounds t : Nat)
    (s : State) :
    (¬ t < budget ∧ frameLoop stepper budget (rounds + 1) t s = some (.next ⟨some t, s⟩)) ∨
    (∃ c s', t < budget ∧ stepper s = .next ⟨some c, s'⟩ ∧
      frameLoop stepper budget (rounds + 1) t s = frameLoop stepper budget rounds (t + c) s') ∨
    (t < budget ∧ (∀ c s', stepper s ≠ .next ⟨some c, s'⟩) ∧
      frameLoop stepper budget (rounds + 1) t s = some (stepper s)) := by
  by_cases h : t < budget
  · by_cases hstep : ∃ c s', stepper s = .next ⟨some c, s'⟩
    · obtain ⟨c, s', hstep⟩ := hstep
      exact .inr (.inl ⟨c, s', h, hstep, frameLoop_counted h hstep⟩)
    · have hnone : ∀ c s', stepper s ≠ .next ⟨some c, s'⟩ := fun c s' e => hstep ⟨c, s', e⟩
      exact .inr (.inr ⟨h, hnone, frameLoop_ended h hnone⟩)
  · exact .inl ⟨h, frameLoop_done h⟩

/-! ### The loop, all rounds -/

/-- More rounds do not change an outcome. -/
theorem frameLoop_mono {rounds' : Nat} {out : Host.Outcome Returned Fault Refusal} (hle : rounds ≤ rounds')
    (h : frameLoop stepper budget rounds t s = some out) :
    frameLoop stepper budget rounds' t s = some out := by
  induction rounds generalizing rounds' t s with
  | zero => cases h
  | succ rounds ih =>
    obtain ⟨rounds', rfl⟩ := Nat.exists_eq_succ_of_ne_zero (Nat.ne_zero_of_lt hle)
    obtain ⟨ht, e⟩ | ⟨c, s', ht, hstep, e⟩ | ⟨ht, hstep, e⟩ :=
      frameLoop_succ_cases stepper budget rounds t s
    all_goals rw [e] at h
    · rw [Nat.succ_eq_add_one, frameLoop_done ht, h]
    · rw [Nat.succ_eq_add_one, frameLoop_counted ht hstep]
      exact ih (Nat.le_of_succ_le_succ hle) h
    · rw [Nat.succ_eq_add_one, frameLoop_ended ht hstep, h]

/-- An outcome with a count added. -/
def addCount (c : Nat) : Host.Outcome Returned Fault Refusal → Host.Outcome Returned Fault Refusal
  | .next ⟨some k, s⟩ => .next ⟨some (c + k), s⟩
  | .next ⟨none, s⟩ => .next ⟨none, s⟩
  | .fault r => .fault r
  | .refused r => .refused r

theorem addCount_eq_self {c : Nat} {out : Host.Outcome Returned Fault Refusal}
    (h : ∀ k s', out ≠ .next ⟨some k, s'⟩) : addCount c out = out := by
  match out with
  | .next ⟨some k, s'⟩ => exact absurd rfl (h k s')
  | .next ⟨none, _⟩ | .fault _ | .refused _ => rfl

theorem addCount_eq_some_iff {c k : Nat} {s' : State} {out : Host.Outcome Returned Fault Refusal} :
    addCount c out = .next ⟨some (c + k), s'⟩ ↔ out = .next ⟨some k, s'⟩ := by
  match out with
  | .next ⟨some _, _⟩ => simp [addCount]
  | .next ⟨none, _⟩ | .fault _ | .refused _ => simp [addCount]

/-- A loop that starts with a count `c` is the loop with the rest of the budget, and `c` added. -/
theorem frameLoop_add (c : Nat) :
    frameLoop stepper budget rounds (c + t) s =
      (frameLoop stepper (budget - c) rounds t s).map (addCount c) := by
  induction rounds generalizing t s with
  | zero => rfl
  | succ rounds ih =>
    obtain ⟨ht, e⟩ | ⟨k, s', ht, hstep, e⟩ | ⟨ht, hstep, e⟩ :=
      frameLoop_succ_cases stepper (budget - c) rounds t s
    all_goals rw [e]
    · exact frameLoop_done (by omega)
    · rw [frameLoop_counted (by omega) hstep, Nat.add_assoc, ih]
    · rw [frameLoop_ended (by omega) hstep, Option.map_some, addCount_eq_self hstep]

/-! ### The frame -/

theorem runFrameWithin_of_open (hopen : s.fatal = false) :
    runFrameWithin stepper budget rounds s = frameLoop stepper budget rounds 0 s :=
  if_neg (ne_true_of_eq_false hopen)

theorem runFrameWithin_of_fatal (hfatal : s.fatal = true) :
    runFrameWithin stepper budget rounds s = some (.fault .sessionOver) := if_pos hfatal

theorem frameEnds_iff_of_open {out : Host.Outcome Returned Fault Refusal} (hopen : s.fatal = false) :
    FrameEnds stepper budget s out ↔ ∃ rounds, frameLoop stepper budget rounds 0 s = some out := by
  simp only [FrameEnds, runFrameWithin_of_open hopen]

/-- A frame that answers was begun in an open session (R190). -/
theorem open_of_frameEnds_next {r : Returned} (h : FrameEnds stepper budget s (.next r)) :
    s.fatal = false := by
  obtain ⟨_, h⟩ := h
  cases hfatal : s.fatal with
  | false => rfl
  | true => cases (runFrameWithin_of_fatal hfatal).symm.trans h

theorem frameEnds_unique {out out' : Host.Outcome Returned Fault Refusal}
    (h : FrameEnds stepper budget s out) (h' : FrameEnds stepper budget s out') : out = out' := by
  cases hfatal : s.fatal with
  | true =>
    obtain ⟨_, h⟩ := h
    obtain ⟨_, h'⟩ := h'
    rw [runFrameWithin_of_fatal hfatal] at h h'
    exact Option.some.inj (h.symm.trans h')
  | false =>
    obtain ⟨r, h⟩ := (frameEnds_iff_of_open hfatal).mp h
    obtain ⟨r', h'⟩ := (frameEnds_iff_of_open hfatal).mp h'
    exact Option.some.inj ((frameLoop_mono (Nat.le_max_left r r') h).symm.trans
      (frameLoop_mono (Nat.le_max_right r r') h'))

/-- A frame that runs a step is that step and the frame of the rest of the budget (R187). -/
theorem frameEnds_step_iff {c k : Nat} {s' u : State} (hbudget : 0 < budget) (hopen : s.fatal = false)
    (hopen' : s'.fatal = false) (hstep : stepper s = .next ⟨some c, s'⟩) :
    FrameEnds stepper budget s (.next ⟨some (c + k), u⟩) ↔
      FrameEnds stepper (budget - c) s' (.next ⟨some k, u⟩) := by
  have hround (r : Nat) : frameLoop stepper budget (r + 1) 0 s = some (.next ⟨some (c + k), u⟩) ↔
      frameLoop stepper (budget - c) r 0 s' = some (.next ⟨some k, u⟩) := by
    rw [frameLoop_counted hbudget hstep, Nat.add_comm 0 c, frameLoop_add, Option.map_eq_some_iff]
    simp only [addCount_eq_some_iff, exists_eq_right]
  rw [frameEnds_iff_of_open hopen, frameEnds_iff_of_open hopen']
  constructor
  · rintro ⟨_ | r, h⟩
    · cases h
    · exact ⟨r, (hround r).mp h⟩
  · rintro ⟨r, h⟩
    exact ⟨r + 1, (hround r).mpr h⟩

end Loop

section Sequencer

variable {p : Params} {table : Table} {budget rounds t : Nat} {s : State}

/-- What a loop that ends with a count leaves (R187, R153). -/
theorem frameLoop_some {c : Nat} {u : State} (hopen : s.fatal = false)
    (h : frameLoop (stepWith p table) budget rounds t s = some (.next ⟨some c, u⟩)) :
    budget ≤ c ∧ u.tcyc + t = s.tcyc + c ∧ u.fatal = false := by
  induction rounds generalizing t s with
  | zero => cases h
  | succ rounds ih =>
    obtain ⟨ht, e⟩ | ⟨c', s', -, hstep, e⟩ | ⟨-, hstep, e⟩ :=
      frameLoop_succ_cases (stepWith p table) budget rounds t s
    all_goals rw [e] at h
    · cases h
      exact ⟨Nat.le_of_not_lt ht, rfl, hopen⟩
    · obtain ⟨hbudget, htcyc, hfatal⟩ := ih (fatal_of_stepWith_some hstep).1 h
      have hhead : s'.tcyc = s.tcyc + c' := stepWith_tcyc hstep
      exact ⟨hbudget, by omega, hfatal⟩
    · exact absurd (Option.some.inj h) (hstep c u)

theorem frameLoop_none {u : State}
    (h : frameLoop (stepWith p table) budget rounds t s = some (.next ⟨none, u⟩)) : u.fatal = true := by
  induction rounds generalizing t s with
  | zero => cases h
  | succ rounds ih =>
    obtain ⟨-, e⟩ | ⟨_, _, -, -, e⟩ | ⟨-, -, e⟩ := frameLoop_succ_cases (stepWith p table) budget rounds t s
    all_goals rw [e] at h
    · cases h
    · exact ih h
    · exact fatal_of_stepWith_none (Option.some.inj h)

/-- With positive counts each round brings the loop nearer to the budget. -/
theorem frameLoop_ends (hpos : ∀ c, StepCost p table c → 0 < c) (hopen : s.fatal = false)
    (hrounds : budget ≤ t + rounds) :
    ∃ r, frameLoop (stepWith p table) budget (rounds + 1) t s = some (.next r) := by
  induction rounds generalizing t s with
  | zero => exact ⟨_, frameLoop_done (Nat.not_lt.mpr hrounds)⟩
  | succ rounds ih =>
    obtain ⟨-, e⟩ | ⟨c, s', -, hstep, e⟩ | ⟨-, -, e⟩ :=
      frameLoop_succ_cases (stepWith p table) budget (rounds + 1) t s
    all_goals rw [e]
    · exact ⟨_, rfl⟩
    · obtain ⟨hopen', hcost⟩ := fatal_of_stepWith_some hstep
      have := hpos c hcost
      exact ih hopen' (by omega)
    · obtain ⟨r, hr⟩ := stepWith_next p table hopen
      exact ⟨r, congrArg some hr⟩

end Sequencer

theorem machine_stepCost_pos (c : Nat) (h : StepCost Config.params (machineTable Config.params) c) : 0 < c :=
  stepCost_pos h (tableOf_costs_pos Config.params (List.Subset.refl _) (by decide)) (by decide) (by decide)
    (by decide) (by decide)

/-- The machine's own frame ends within its rounds (log entry 18). -/
theorem exists_runFrame (budget : Nat) (s : State) : ∃ out, runFrame budget s = some out := by
  cases hfatal : s.fatal with
  | true => exact ⟨_, runFrameWithin_of_fatal hfatal⟩
  | false =>
    obtain ⟨r, hr⟩ := frameLoop_ends machine_stepCost_pos hfatal (Nat.zero_add budget).ge
    exact ⟨_, (runFrameWithin_of_open hfatal).trans hr⟩

/-- Settles O32: the loop's laws hold round by round; positive costs bring it to the budget. -/
theorem runFrameReachesTheBudget : Obligations.RunFrameReachesTheBudget := by
  refine ⟨fun p table budget s => ⟨fun _ _ => frameEnds_unique, fun hfatal => ?fatal, fun hopen => ?zero,
    fun c s' k t hbudget hstep => ?step, fun s' hbudget hstep => ?raise, fun c t h => ?some,
    fun t h => ?none, fun hopen htable hidle hnmi him1 him2 => ?ends⟩, fun budget s => ?machine⟩
  case fatal => exact ⟨0, runFrameWithin_of_fatal hfatal⟩
  case zero =>
    exact (frameEnds_iff_of_open hopen).mpr ⟨1, frameLoop_done (Nat.not_lt_zero 0)⟩
  case step =>
    exact frameEnds_step_iff hbudget (fatal_eq_false_of_stepWith_next hstep)
      (fatal_of_stepWith_some hstep).1 hstep
  case raise =>
    have hnone : ∀ c u, stepWith p table s ≠ .next ⟨some c, u⟩ := fun c u e => by
      cases hstep.symm.trans e
    refine (frameEnds_iff_of_open (fatal_eq_false_of_stepWith_next hstep)).mpr ⟨1, ?_⟩
    rw [frameLoop_ended hbudget hnone, hstep]
  case some =>
    have hopen := open_of_frameEnds_next h
    obtain ⟨_, h⟩ := (frameEnds_iff_of_open hopen).mp h
    exact frameLoop_some hopen h
  case none =>
    obtain ⟨_, h⟩ := (frameEnds_iff_of_open (open_of_frameEnds_next h)).mp h
    exact frameLoop_none h
  case ends =>
    obtain ⟨r, hr⟩ := frameLoop_ends (fun c hc => stepCost_pos hc htable hidle hnmi him1 him2) hopen
      (Nat.zero_add budget).ge
    exact ⟨r, (frameEnds_iff_of_open hopen).mpr ⟨_, hr⟩⟩
  case machine =>
    obtain ⟨out, hout⟩ := exists_runFrame budget s
    exact ⟨out, hout, _, hout⟩

end Sys2Proof.Machine
end

section
/-! PROOFS. NOP, HALT and the exchanges, the synthetic pair, and the unmapped words (`42_named_instructions.md`
R170 to R175, `30_encoding.md` R89). -/

namespace Sys2Proof.Machine

/-- Settles O57: NOP's row has the default's costs, and its descriptor the identity. -/
theorem namedInstructions : Obligations.NamedInstructions := by
  refine ⟨fun p ops s => ?nopRow, fun s => ⟨?nop, ?halt, ?exx, ?exAfAf⟩⟩
  case nopRow =>
    have hrow : findRow trefRows 0 = some ⟨0, 0, .defaultCycles, .defaultCycles, fun _ => .nop⟩ := rfl
    rw [trefTable, tableOf_some hrow]
    exact ⟨rfl, rfl, rfl, rfl⟩
  case nop => exact ⟨rfl, rfl, rfl, rfl, rfl, rfl, rfl, rfl, rfl⟩
  case halt | exx | exAfAf => exact follows_noOperand rfl

/-- What `Follows` says of a row of the machine's table with one operand byte, as `follows_byteOperand` says it
of TREF. -/
theorem follows_machineTable_byteOperand {sel base alt : Nat} {code : List Byte} {op : Byte → Instr}
    {b : Byte} {s t : State}
    (hexec : exec (op b) s = .next t)
    (hrow : findRow machineRows sel =
      some ⟨sel, 1, .cycles base, .cycles alt, fun ops => op (imm8 ops)⟩ := by rfl)
    (hdecode : decodeSelector (listSource code) = .ok sel code.length := by rfl)
    (hencode : encode (op b) = code ++ [b] := by rfl) :
    Follows (machineTable Config.params) sel code 1 base alt [b] (op b) s t := by
  have hrun := runExec_machineTable (p := Config.params) (ops := [b]) hrow ((execWith_default _ _).trans hexec)
  have hdesc := tableOf_some (p := Config.params) hrow
  refine ⟨hencode, hdecode, rfl, ?_, ?_, ?_, hexec, hrun, ?_⟩ <;> rw [machineTable, hdesc] <;> rfl

/-- Settles O58: each instruction is one row of the machine's table, with one operand byte. -/
theorem syntheticPairShowsTheCostRule : Obligations.SyntheticPairShowsTheCostRule := by
  refine fun s d => ⟨?jcond, ?plain, fun p => ⟨tableOf_none rfl, tableOf_none rfl⟩⟩
  case jcond => exact follows_machineTable_byteOperand (congrArg _ (jumpIf_not _ _ s))
  case plain => exact follows_machineTable_byteOperand rfl

theorem exec_unmappedInstr (pat : Pattern) (op : Byte) (s : State) :
    exec (unmappedInstr pat op) s = .next s := by
  rw [← execWith_default, execWith_unmappedInstr]

/-- A source that starts with a well-formed unmapped word scans to its pattern and final byte. -/
theorem scan_of_startsWith_unmapped {pat : Pattern} {op : Byte} {src : Nat → Byte}
    (hop : ¬ IsPrefixByte op) (hsrc : StartsWith src (patternBytes pat ++ [op])) :
    scan src = .opcode pat op := by
  have hscan := scan_patternBytes hop pat
  rw [← hscan]
  refine scan_congr fun k hk => hsrc k ?_
  rwa [hscan, scanLength, ← length_patternBytes pat op] at hk

/-- A step on an unmapped selector is the default no-operation (R89, R143). -/
theorem stepOf_of_unmapped (p : Params) {s : State} {sel len : Nat} (hfetches : s.fetches = true)
    (hdecode : decodeSelector (pcSource s) = .ok sel len) (hrow : findRow machineRows sel = none) :
    stepOf p s = .next { s with pc := s.pc + BitVec.ofNat 16 len, intp := false,
                                tcyc := s.tcyc + p.defaultCycles } := by
  have hstep := stepWith_fetches_ok p (machineTable p) hfetches hdecode
  rw [machineTable_of_unmapped p hrow, runDescriptor_eq] at hstep
  have hcost (u : State) (pf : Word) : costOf (defaultDesc p) pf u = p.defaultCycles := ite_self _
  rw [hcost] at hstep
  exact stateOnly_eq_next.mpr ⟨_, hstep⟩

theorem isDefaultNoOp_unmappedInstr (pat : Pattern) (op : Byte) : IsDefaultNoOp (unmappedInstr pat op) := by
  have hlen : (encode (unmappedInstr pat op)).length = pat.len := by
    rw [encode_unmappedInstr, length_patternBytes]
  refine ⟨exec_unmappedInstr pat op, fun hwf src hsrc => ?decodes, fun hwf s hfetches hsrc => ?steps⟩
  all_goals
    obtain ⟨hop, hrow⟩ := wellFormed_unmappedInstr_iff.mp hwf
    rw [encode_unmappedInstr] at hsrc
    have hdecode := decodeSelector_of_scan (scan_of_startsWith_unmapped hop hsrc)
    rw [hlen]
  case decodes =>
    exact ⟨_, hdecode, fun p => ⟨trefTable_of_unmapped p hrow, machineTable_of_unmapped p hrow⟩⟩
  case steps =>
    exact ⟨fun p => stepOf_of_unmapped p hfetches hdecode hrow,
      stepOf_of_unmapped Config.params hfetches hdecode hrow⟩

/-- Settles O59: one law for every pattern. -/
theorem unmappedWordsAreNoOperations : Obligations.UnmappedWordsAreNoOperations := by
  have law := isDefaultNoOp_unmappedInstr
  exact fun o => ⟨law .bare o, law (.one .dd) o, law (.one .fd) o, law (.one .ed) o, law (.one .cb) o,
    law (.two .dd .dd) o, law (.two .dd .fd) o, law (.two .dd .cb) o, law (.two .fd .dd) o,
    law (.two .fd .fd) o, law (.two .fd .cb) o, law (.two .ed .dd) o, law (.two .ed .fd) o,
    law (.two .ed .cb) o, law (.two .cb .dd) o, law (.two .cb .fd) o, law (.two .cb .cb) o,
    law (.two .dd .ed) o, law (.two .fd .ed) o, law (.two .ed .ed) o, law (.two .cb .ed) o⟩

end Sys2Proof.Machine
end
